-- ==== Sys2Proof/Word.lean ====
section
/-! DEFINITION. The word widths of SDT2 (R4 "Fixed widths", R6, R55) and the plain records built from them.
Bit 0 of every word is the least significant bit (R6); every quantity is unsigned. -/

namespace Sys2Proof

/-- `u16`: frequency and duty codes (R4, R12). -/
abbrev U16 := BitVec 16

/-- `u32`: durations, the down-counters and the host registers (R4, R13, R16, R33). -/
abbrev U32 := BitVec 32

/-- `u64`: tick counts and timestamps (R4, R11). -/
abbrev U64 := BitVec 64

/-- The host address: a 4-bit word address (R40). -/
abbrev Addr := BitVec 4

/-- A host transaction word, 38 bits (R55). -/
abbrev TxnWord := BitVec 38

/-- The IntervalPair of SDT §3: the HIGH and the LOW duration of one channel, in ticks (R13). -/
structure IntervalPair where
  high : U32
  low : U32
  deriving DecidableEq, Repr, Inhabited

end Sys2Proof
end

