-- ==== Sys2Proof/Config.lean ====
section
/-! DEFINITION. What an implementation fixes (the parameters of R4) and the one value the spec leaves open
(`calc` outside its domain, R73 and U3 of 93_implementation_defined.md). -/

namespace Sys2Proof

/-- The values the parameter `MODE_RESET` may take (R4). Three-valued, as R130 suggests, so that `OFF` is excluded
by construction. -/
inductive ResetMode where
  | run
  | magnetOff
  | allOff
  deriving DecidableEq, Repr

/-- The implementation parameters of R4. "A model takes each as an argument": here they travel in `State.params`,
which no step changes (log 2). -/
structure Params where
  /-- `N_MAG`: how many lines the magnet channel drives. -/
  nMag : Nat
  /-- `DEBOUNCE_US`, in ticks. -/
  debounceUs : Nat
  /-- `EN_RESET`, used only when `LEGACY_MODES = false`. -/
  enReset : Bool
  /-- `DEF_LED_FREQ`, units 0.1 Hz. -/
  defLedFreq : U16
  /-- `DEF_LED_DUTY`, units 0.1 %. -/
  defLedDuty : U16
  /-- `DEF_MAG_FREQ`, units 0.1 Hz. -/
  defMagFreq : U16
  /-- `DEF_MAG_DUTY`, units 0.1 %. -/
  defMagDuty : U16
  /-- `LEGACY_MODES`: whether the Mode Sequencer is present (R2, R120). -/
  legacyModes : Bool
  /-- `MODE_RESET`, used only when `LEGACY_MODES = true`. -/
  modeReset : ResetMode
  /-- `MAG_BASE_FREQ`, units 0.1 Hz, used only when `LEGACY_MODES = true`. -/
  magBaseFreq : U16
  /-- `IDLE_TIMEOUT_US`, in ticks, used only when `LEGACY_MODES = true`. -/
  idleTimeoutUs : Nat
  deriving DecidableEq, Repr

/-- The default column of R4. -/
def Params.default : Params where
  nMag := 1
  debounceUs := 50000
  enReset := true
  defLedFreq := 805
  defLedDuty := 500
  defMagFreq := 798
  defMagDuty := 500
  legacyModes := false
  modeReset := .run
  magBaseFreq := 798
  idleTimeoutUs := 900000000

/-- The constraint column of R4: "a parameter set that breaks one is not an SDT2". The upper bound 65535 of the
frequency codes is the type's. -/
abbrev Params.WellFormed (p : Params) : Prop :=
  (p.nMag = 1 ∨ p.nMag = 2) ∧
  (1 ≤ p.debounceUs ∧ p.debounceUs < 2 ^ 32) ∧
  1 ≤ p.defLedFreq.toNat ∧ (1 ≤ p.defLedDuty.toNat ∧ p.defLedDuty.toNat ≤ 999) ∧
  1 ≤ p.defMagFreq.toNat ∧ (1 ≤ p.defMagDuty.toNat ∧ p.defMagDuty.toNat ≤ 999) ∧
  1 ≤ p.magBaseFreq.toNat ∧
  (1 ≤ p.idleTimeoutUs ∧ p.idleTimeoutUs < 2 ^ 63)

/-- The free value of `calc(F, D)` where `valid(F, D)` is false. R73: "A model may leave `calc` undefined outside
`valid` or give it any value there; no rule depends on it." It has no body, so nothing can be proved of its value
(log 4). -/
opaque Config.calcOutsideDomain : Nat → Nat → IntervalPair

end Sys2Proof
end

