-- ==== Sys2Proof/Machine/Calculator.lean ====
section
/-! DEFINITION. The waveform parameter calculator (40_calculator.md): a pure function of the two codes (R73). -/

namespace Sys2Proof.Machine

/-- `valid(F, D)` (R70), for unsigned integers of any size. -/
def valid (f d : Nat) : Bool := decide (1 ≤ f ∧ f ≤ 65535 ∧ 1 ≤ d ∧ d ≤ 999)

/-- The rounding law of R77 for the rational `a / b`: `floor(a / b + 1/2)`. -/
def roundHalfUp (a b : Nat) : Nat := (2 * a + b) / (2 * b)

/-- `period(F)` (R71). -/
def period (f : Nat) : Nat := (20000000 + f) / (2 * f)

/-- `high0` of R72 for a period `p` and a duty code `d`. -/
def highBeforeClamp (p d : Nat) : Nat := (p * d + 500) / 1000

/-- `high` of R72: `high0` clamped into `1 .. p - 1`. -/
def highTicks (f d : Nat) : Nat := min (max (highBeforeClamp (period f) d) 1) (period f - 1)

/-- `low` of R72: what `high` leaves of the period. -/
def lowTicks (f d : Nat) : Nat := period f - highTicks f d

/-- `calc(F, D)` (R72; `calc` is a word of Lean). Outside `valid` the spec gives no value (R73, U3): there it is the free value
`Config.calcOutsideDomain` (DESIGN CHOICE, log 4; safe). -/
def calcPair (f d : Nat) : IntervalPair :=
  if valid f d then ⟨BitVec.ofNat 32 (highTicks f d), BitVec.ofNat 32 (lowTicks f d)⟩
  else Config.calcOutsideDomain f d

end Sys2Proof.Machine
end

