-- ==== Sys2Proof/Machine/Regs.lean ====
section
/-! DEFINITION. The architectural registers: the closed list of R10, one field per row, thirty scalars. -/

namespace Sys2Proof.Machine

/-- The two channels (R5): `LED` is numeric 0, `MAG` numeric 1. -/
inductive Channel where
  | led
  | mag
  deriving DecidableEq, Repr

/-- `MODE`, two bits (R20); `OFF` means that no mode sequencer is present. -/
inductive Mode where
  | off
  | run
  | magnetOff
  | allOff
  deriving DecidableEq, Repr

/-- The eight per-channel elements of R10. -/
structure ChannelRegs where
  /-- `FREQ[c]`, units 0.1 Hz (R12). -/
  freq : U16
  /-- `DUTY[c]`, units 0.1 % (R12). -/
  duty : U16
  /-- `HIGH_US[c]` (R13). -/
  highUs : U32
  /-- `LOW_US[c]` (R13). -/
  lowUs : U32
  /-- `LEVEL[c]` (R14): 1 is HIGH, the active level. -/
  level : Bool
  /-- `ARMED[c]` (R15). -/
  armed : Bool
  /-- `CNT[c]` (R16): ticks left in the present half-cycle, 0 when idle. -/
  cnt : U32
  /-- `FAIL[c]` (R17). -/
  fail : Bool
  deriving DecidableEq, Repr

/-- "The state of SDT2 is exactly the following elements and nothing else" (R10). -/
structure Regs where
  /-- `NOW` (R11). -/
  now : U64
  /-- The elements of channel `LED`. -/
  led : ChannelRegs
  /-- The elements of channel `MAG`. -/
  mag : ChannelRegs
  /-- `EN` (R18). -/
  en : Bool
  /-- `MAG_OVR` (R19). -/
  magOvr : Bool
  /-- `MODE` (R20). -/
  mode : Mode
  /-- `RUN_SINCE` (R21). -/
  runSince : U64
  /-- `BTN_PREV` (R22). -/
  btnPrev : Bool
  /-- `LAST_ACCEPT` (R23). -/
  lastAccept : U64
  /-- `LAST_VALID` (R23). -/
  lastValid : Bool
  /-- `STG_LED_FREQ` (R24). -/
  stgLedFreq : U32
  /-- `STG_LED_DUTY` (R24). -/
  stgLedDuty : U32
  /-- `STG_MAG_FREQ` (R24). -/
  stgMagFreq : U32
  /-- `STG_MAG_DUTY` (R24). -/
  stgMagDuty : U32
  /-- `REJECT` (R25). -/
  reject : Bool
  /-- `SAVE_REQ` (R27). -/
  saveReq : Bool
  deriving DecidableEq, Repr

end Sys2Proof.Machine
end

