-- ==== Sys2Proof/Machine/Ops.lean ====
section
/-! DEFINITION. The shared operations over the registers: access to one channel, the effective enable, `start` and
`stop`, and raising an error. -/

namespace Sys2Proof.Machine

/-! ### One channel of the two -/

/-- The elements `X[c]` of channel `c` (R5). -/
def chan (c : Channel) (r : Regs) : ChannelRegs :=
  match c with
  | .led => r.led
  | .mag => r.mag

/-- Replace the elements of channel `c`; everything else stays. -/
def setChan (c : Channel) (x : ChannelRegs) (r : Regs) : Regs :=
  match c with
  | .led => { r with led := x }
  | .mag => { r with mag := x }

/-! ### Enable, start, stop (41_oscillator.md) -/

/-- `en_eff(c)` (R80). -/
def enEff (c : Channel) (r : Regs) : Bool :=
  match c with
  | .led => r.en
  | .mag => r.en && !r.magOvr

/-- The three states of an oscillator (R81). -/
inductive OscState where
  | high
  | low
  | halted
  deriving DecidableEq, Repr

/-- Which of its states a channel is in (R81). -/
def oscState (x : ChannelRegs) : OscState :=
  if x.armed then (if x.level then .high else .low) else .halted

/-- `start(c)` (R86): a channel that has not failed begins a full LOW half-cycle. -/
def start (c : Channel) (r : Regs) : Regs :=
  if (chan c r).fail then r
  else setChan c { chan c r with level := false, armed := true, cnt := (chan c r).lowUs } r

/-- `stop(c)` (R87): the lines go to the inactive level at once; `CNT[c]` is not written. -/
def stop (c : Channel) (r : Regs) : Regs :=
  setChan c { chan c r with level := false, armed := false } r

/-! ### Errors (60_exceptions.md): what takes the place of exceptions -/

/-- The error kinds of R145; HardwareInitFailure is per channel (R147). -/
inductive ErrorKind where
  | invalidParameter
  | hardwareInitFailure (c : Channel)
  | transientLinkLoss
  | debounceReject
  deriving DecidableEq, Repr

/-- The cause codes of R145; they "are stored nowhere in SDT2". -/
def ErrorKind.code : ErrorKind → Nat
  | .invalidParameter => 1
  | .hardwareInitFailure _ => 2
  | .transientLinkLoss => 3
  | .debounceReject => 4

/-- `raise` (R7): "set the status bit that 60_exceptions.md gives for that exception and do nothing else; control is
never transferred". InvalidParameter is recorded in `REJECT` (R146), HardwareInitFailure in `FAIL[c]` (R147), the
other two nowhere (R148, R149). Nothing is saved and there is nothing to return from (R154, R155). -/
def raise (e : ErrorKind) (r : Regs) : Regs :=
  match e with
  | .invalidParameter => { r with reject := true }
  | .hardwareInitFailure c => setChan c { chan c r with fail := true } r
  | .transientLinkLoss => r
  | .debounceReject => r

/-! ### Time (R11) -/

/-- Elapsed ticks since a stored timestamp: `(NOW - T) mod 2^64`. -/
def elapsedSince (t : U64) (r : Regs) : Nat := (r.now - t).toNat

end Sys2Proof.Machine
end

