-- ==== Sys2Proof/Machine/Flags.lean ====
section
/-! DEFINITION. The status word (R34), its two host-visible flags `REJECT` (R25) and `SAVE_REQ` (R27), and the code of
`MODE` (R20). -/

namespace Sys2Proof.Machine

/-- The two-bit code of `MODE` (R20). -/
def Mode.code : Mode → BitVec 2
  | .off => 0
  | .run => 1
  | .magnetOff => 2
  | .allOff => 3

/-- One bit at position `n` of a 32-bit word. -/
def bitAt (n : Nat) (b : Bool) : U32 := (BitVec.ofBool b).setWidth 32 <<< n

/-- The `STATUS` word (R34); bits 31:12 read 0. -/
def statusWord (r : Regs) : U32 :=
  bitAt 0 r.en |||
  bitAt 1 r.led.level |||
  bitAt 2 r.mag.level |||
  bitAt 3 r.led.armed |||
  bitAt 4 r.mag.armed |||
  bitAt 5 r.led.fail |||
  bitAt 6 r.mag.fail |||
  bitAt 7 r.reject |||
  bitAt 8 r.magOvr |||
  bitAt 9 r.saveReq |||
  ((r.mode.code.setWidth 32) <<< 10)

/-- The flags an accepted install writes (R117): `REJECT <- 0`, `SAVE_REQ <- 1`. -/
def flagAccepted (r : Regs) : Regs := { r with reject := false, saveReq := true }

/-- The flag a rejected install writes (R117, R146): `REJECT <- 1` by `raise InvalidParameter`; `SAVE_REQ` is not
set. -/
def flagRejected (r : Regs) : Regs := raise .invalidParameter r

/-- P0 (R137): `SAVE_REQ <- 0`. -/
def clearSaveReq (r : Regs) : Regs := { r with saveReq := false }

end Sys2Proof.Machine
end

