-- ==== Sys2Proof/Syntax.lean ====
section
/-! DEFINITION. The host transactions of R58, which take the place of an instruction set (00_scope.md section 4),
and the sixteen register names of R33. -/

namespace Sys2Proof

/-- The sixteen word addresses of the host register map, by name (R33). -/
inductive RegName where
  | cmd
  | status
  | stgLedFreq
  | stgLedDuty
  | stgMagFreq
  | stgMagDuty
  | ledFreq
  | ledDuty
  | magFreq
  | magDuty
  | ledHighUs
  | ledLowUs
  | magHighUs
  | magLowUs
  /-- Reserved address 14. -/
  | rsvd14
  /-- Reserved address 15. -/
  | rsvd15
  deriving DecidableEq, Repr

/-- A host transaction: one constructor per mnemonic of R58. The bits that R56 calls ignored (`addr` and `data` of
`NOP` and of `op` = 3, `data` of `RD`) are no operands: "Ignored bits may have any value and do not change the
behaviour." -/
inductive Instr where
  /-- `NOP` (R105). -/
  | nop
  /-- `RD a` (R106). -/
  | rd (a : RegName)
  /-- `CMD.APPLY` (R112). -/
  | cmdApply
  /-- `CMD.DEFAULTS` (R113). -/
  | cmdDefaults
  /-- `CMD.RSVD v` (R114). -/
  | cmdRsvd (v : U32)
  /-- `WR.STG_LED_FREQ v` (R108). -/
  | wrStgLedFreq (v : U32)
  /-- `WR.STG_LED_DUTY v` (R109). -/
  | wrStgLedDuty (v : U32)
  /-- `WR.STG_MAG_FREQ v` (R110). -/
  | wrStgMagFreq (v : U32)
  /-- `WR.STG_MAG_DUTY v` (R111). -/
  | wrStgMagDuty (v : U32)
  /-- `WR.IGN a, v` (R115). -/
  | wrIgn (a : RegName) (v : U32)
  /-- `RSVD3` (R116). -/
  | rsvd3
  deriving DecidableEq, Repr

end Sys2Proof
end

