-- ==== Sys2Proof/Machine/Operands.lean ====
section
/-! DEFINITION. The operand forms: the "Read value" column of the register map (R33, R41), the staging registers as a
group (R24) and the codes as the host sees them. -/

namespace Sys2Proof.Machine

/-- `zext_32` of a 16-bit code (R6). -/
def zext32 (v : U16) : U32 := v.setWidth 32

/-- `MemRead(a, 4)` evaluated in the registers `r` (R41): write-only and reserved addresses read as 0. -/
def memRead (a : RegName) (r : Regs) : U32 :=
  match a with
  | .cmd => 0
  | .status => statusWord r
  | .stgLedFreq => r.stgLedFreq
  | .stgLedDuty => r.stgLedDuty
  | .stgMagFreq => r.stgMagFreq
  | .stgMagDuty => r.stgMagDuty
  | .ledFreq => zext32 r.led.freq
  | .ledDuty => zext32 r.led.duty
  | .magFreq => zext32 r.mag.freq
  | .magDuty => zext32 r.mag.duty
  | .ledHighUs => r.led.highUs
  | .ledLowUs => r.led.lowUs
  | .magHighUs => r.mag.highUs
  | .magLowUs => r.mag.lowUs
  | .rsvd14 => 0
  | .rsvd15 => 0

/-- The last four assignments of R117: each staging register takes the zero-extended live code (R24). -/
def syncStaging (r : Regs) : Regs :=
  { r with
    stgLedFreq := zext32 r.led.freq
    stgLedDuty := zext32 r.led.duty
    stgMagFreq := zext32 r.mag.freq
    stgMagDuty := zext32 r.mag.duty }

/-- The answer of the document's `getSettings()` (R107): the WaveformSpec pair and the enabled flag. -/
structure Settings where
  ledFreq : U32
  ledDuty : U32
  magFreq : U32
  magDuty : U32
  enabled : Bool
  deriving DecidableEq, Repr

/-- `getSettings()` read in one state: the five fields as `RD` returns them, `enabled` being bit 0 of `STATUS` (R107).
A host that reads them in five ticks may see five states (R50). -/
def getSettings (r : Regs) : Settings where
  ledFreq := memRead .ledFreq r
  ledDuty := memRead .ledDuty r
  magFreq := memRead .magFreq r
  magDuty := memRead .magDuty r
  enabled := (memRead .status r).getLsbD 0

end Sys2Proof.Machine
end

