-- ==== Sys2Proof/Machine/ModeSequencer.lean ====
section
/-! DEFINITION. The legacy Mode Sequencer (44_mode_sequencer.md), present only when `LEGACY_MODES = true` (R120). -/

namespace Sys2Proof.Machine

/-- R124, RUN to MAGNET_OFF. -/
def runToMagnetOff (r : Regs) : Regs :=
  stop .mag { r with mode := .magnetOff, magOvr := true }

/-- R125, MAGNET_OFF to ALL_OFF. `MAG_OVR` stays as it is. -/
def magnetOffToAllOff (r : Regs) : Regs :=
  stop .mag (stop .led { r with mode := .allOff, en := false })

/-- The part of R126 that sets the magnet frequency to the base value: `FREQ[MAG]`, `STG_MAG_FREQ` and the magnet
IntervalPair with the unchanged duty. -/
def loadBaseFreq (p : Params) (r : Regs) : Regs :=
  let pair := calcPair p.magBaseFreq.toNat r.mag.duty.toNat
  { r with
    mag := { r.mag with freq := p.magBaseFreq, highUs := pair.high, lowUs := pair.low }
    stgMagFreq := zext32 p.magBaseFreq }

/-- R126, the entry to RUN. `SAVE_REQ` is not raised. -/
def enterRun (p : Params) (r : Regs) : Regs :=
  let r := loadBaseFreq p { r with mode := .run, en := true, magOvr := false }
  let r := start .mag (start .led r)
  { r with runSince := r.now }

/-- R123: an accepted edge advances `MODE`. `OFF` "cannot occur when LEGACY_MODES = true" (R130); R144 gives it no
branch, so nothing happens (DEDUCED, log 6). -/
def advanceMode (p : Params) (r : Regs) : Regs :=
  match r.mode with
  | .run => runToMagnetOff r
  | .magnetOff => magnetOffToAllOff r
  | .allOff => enterRun p r
  | .off => r

/-- The condition of R127, read by P4. -/
def idleDue (p : Params) (r : Regs) : Bool :=
  p.legacyModes && r.mode == .run && decide (p.idleTimeoutUs ≤ elapsedSince r.runSince r)

/-- The action of R127: straight from RUN to ALL_OFF. -/
def idleShutoff (r : Regs) : Regs :=
  stop .mag (stop .led { r with mode := .allOff, en := false, magOvr := true })

/-- P4 (R141, R127). -/
def idlePhase (p : Params) (r : Regs) : Regs :=
  if idleDue p r then idleShutoff r else r

end Sys2Proof.Machine
end

