-- ==== Sys2Proof/Machine/Reset.lean ====
section
/-! DEFINITION. The reset state (70_reset_and_hazards.md R167, 10_state.md R36), a function of the parameters and the
straps. -/

namespace Sys2Proof.Machine

/-- The strap inputs `init_fail[c]` (R29, R168). -/
structure Straps where
  led : Bool
  mag : Bool
  deriving DecidableEq, Repr

/-- A channel as the first loop of R167 leaves it, with its codes and no failure. -/
def haltedChannel (freq duty : U16) : ChannelRegs where
  freq := freq
  duty := duty
  highUs := 0
  lowUs := 0
  level := false
  armed := false
  cnt := 0
  fail := false

/-- The mode code of a `MODE_RESET` value (R4, R20). -/
def modeOfReset : ResetMode → Mode
  | .run => .run
  | .magnetOff => .magnetOff
  | .allOff => .allOff

/-- The constant part of R167, with the default codes; the intervals and the staging registers are filled in below. -/
def resetBase (p : Params) : Regs where
  now := 0
  led := haltedChannel p.defLedFreq p.defLedDuty
  mag := haltedChannel p.defMagFreq p.defMagDuty
  en := false
  magOvr := false
  mode := .off
  runSince := 0
  btnPrev := false
  lastAccept := 0
  lastValid := false
  stgLedFreq := 0
  stgLedDuty := 0
  stgMagFreq := 0
  stgMagDuty := 0
  reject := false
  saveReq := false

/-- R167: `FAIL[c] <- init_fail[c]`, as the HardwareInitFailure of R147. -/
def resetFailures (f : Straps) (r : Regs) : Regs :=
  let r := if f.led then raise (.hardwareInitFailure .led) r else r
  if f.mag then raise (.hardwareInitFailure .mag) r else r

/-- R167: `MODE`, `MAG_OVR`, `EN`, and `FREQ[MAG]` when reset enters RUN. -/
def resetMode (p : Params) (r : Regs) : Regs :=
  if p.legacyModes then
    { r with
      mode := modeOfReset p.modeReset
      en := p.modeReset != .allOff
      magOvr := p.modeReset != .run
      mag := { r.mag with freq := if p.modeReset = .run then p.magBaseFreq else r.mag.freq } }
  else { r with mode := .off, magOvr := false, en := p.enReset }

/-- R167: the IntervalPair of one channel from its codes. -/
def withIntervals (x : ChannelRegs) : ChannelRegs :=
  let pair := calcPair x.freq.toNat x.duty.toNat
  { x with highUs := pair.high, lowUs := pair.low }

/-- R167: both IntervalPairs. -/
def resetIntervals (r : Regs) : Regs := { r with led := withIntervals r.led, mag := withIntervals r.mag }

/-- R167: `if en_eff(c): start(c)`. -/
def startIfEnabled (c : Channel) (r : Regs) : Regs := if enEff c r then start c r else r

/-- `reset_state(params, init_fail)` (R167). -/
def resetRegs (p : Params) (f : Straps) : Regs :=
  startIfEnabled .mag (startIfEnabled .led
    (syncStaging (resetIntervals (resetMode p (resetFailures f (resetBase p))))))

end Sys2Proof.Machine
end

