-- ==== Sys2Proof/Machine/State.lean ====
section
/-! DEFINITION. The machine's state: the thirty registers of R10 and the model's own fields beside them, as plain
data; the reasons a step could stop; the state after reset. -/

namespace Sys2Proof.Machine

/-- The input pins of R29 other than the host port. `btn`: 1 released, 0 pressed. -/
structure Pins where
  rst : Bool
  initFail : Straps
  btn : Bool
  deriving DecidableEq, Repr

/-- The inputs of one tick (R29, R135): the pins and the host transaction word. -/
structure TickInput where
  pins : Pins
  host : TxnWord
  deriving DecidableEq, Repr

/-- The state. `regs` is the whole of the spec's state (R10). The other fields are the model's own: the parameters of
R4, which no step changes; the inputs of the coming ticks, which the environment chooses (R29), oldest first, and the
pin levels of the last tick, held while the list is empty (log 1); the registers as the tick in progress found them,
where R26 evaluates a read, nothing between ticks (log 3); and what `rdata` carried in the last tick (log 3). -/
structure State where
  params : Params
  regs : Regs
  latch : Option Regs
  rdata : U32
  pins : Pins
  inputs : List TickInput
  deriving DecidableEq, Repr

/-- SDT2 stops for no fault: "SDT2 never traps and never hangs" (00_scope.md section 4 item 5), "it has no trap"
(R154). No constructor, so that nothing can raise one: the four error kinds of R145 are status bits
(`Sys2Proof.Machine.raise`) and the machine goes on. Safe. -/
inductive Fault where
  deriving DecidableEq, Repr

/-- Why an instruction has no meaning. -/
inductive Refusal where
  /-- Raised by `exec` for an instruction whose arm is not modelled. No arm is left so: every transaction of R58 has
  its meaning. Safe: it only stops. -/
  | notModelled (mnemonic : String)
  deriving DecidableEq, Repr

/-- The pin levels a stimulus starts from (R62): `.btn` is 1, `.rst` is 0 and `.fail` is 0, 0. -/
def Pins.atStart : Pins where
  rst := false
  initFail := ⟨false, false⟩
  btn := true

/-- The state after reset for any parameters and straps, with no input listed (R167). -/
def State.resetWith (p : Params) (f : Straps) : State where
  params := p
  regs := resetRegs p f
  latch := none
  rdata := 0
  pins := { Pins.atStart with initFail := f }
  inputs := []

/-- `S(0)` at the default parameters of R4 and straps 0 (R36, log 2). -/
def State.reset : State := State.resetWith Params.default ⟨false, false⟩

end Sys2Proof.Machine
end

