-- ==== Sys2Proof/Machine/Idle.lean ====
section
/-! DEFINITION. The transactions with no effect on state: `NOP` (R105) and `RSVD3` (R116). -/

namespace Sys2Proof.Machine

/-- What `rdata` carries in a tick whose transaction is no read: 0 (R26). -/
def driveZero (s : State) : State := { s with rdata := 0 }

/-- `NOP` (R105): "Pseudocode: nothing. `rdata` = 0." -/
def execNop (s : State) : Host.Outcome State Fault Refusal := .next (driveZero s)

/-- `RSVD3` (R116, R59): "Treated as `NOP`". -/
def execRsvd3 (s : State) : Host.Outcome State Fault Refusal := .next (driveZero s)

end Sys2Proof.Machine
end

