-- ==== Sys2Proof/Machine/Staging.lean ====
section
/-! DEFINITION. The writes to the staging registers (R108 to R111): all 32 bits are stored, no range test is made. -/

namespace Sys2Proof.Machine

/-- A transaction that changes the registers by `f` and drives `rdata` with 0. -/
def onRegs (f : Regs → Regs) (s : State) : State := driveZero { s with regs := f s.regs }

/-- `WR.STG_LED_FREQ v` (R108). -/
def execWrStgLedFreq (v : U32) (s : State) : Host.Outcome State Fault Refusal :=
  .next (onRegs (fun r => { r with stgLedFreq := v }) s)

/-- `WR.STG_LED_DUTY v` (R109). -/
def execWrStgLedDuty (v : U32) (s : State) : Host.Outcome State Fault Refusal :=
  .next (onRegs (fun r => { r with stgLedDuty := v }) s)

/-- `WR.STG_MAG_FREQ v` (R110). -/
def execWrStgMagFreq (v : U32) (s : State) : Host.Outcome State Fault Refusal :=
  .next (onRegs (fun r => { r with stgMagFreq := v }) s)

/-- `WR.STG_MAG_DUTY v` (R111). -/
def execWrStgMagDuty (v : U32) (s : State) : Host.Outcome State Fault Refusal :=
  .next (onRegs (fun r => { r with stgMagDuty := v }) s)

end Sys2Proof.Machine
end

