-- ==== Sys2Proof/Machine/Command.lean ====
section
/-! DEFINITION. The install step (R117) and the writes to `CMD`: `CMD.APPLY` (R112), `CMD.DEFAULTS` (R113),
`CMD.RSVD` (R114). -/

namespace Sys2Proof.Machine

/-- A channel with new codes and the IntervalPair of those codes; count, level, armed and fail stay (R117, R49). -/
def withCodes (f d : Nat) (x : ChannelRegs) : ChannelRegs :=
  let pair := calcPair f d
  { x with
    freq := BitVec.ofNat 16 f
    duty := BitVec.ofNat 16 d
    highUs := pair.high
    lowUs := pair.low }

/-- Whether R117 accepts its four arguments: both pairs are `valid`. -/
def acceptable (lf ld mf md : Nat) : Bool := valid lf ld && valid mf md

/-- `install(lf, ld, mf, md)` (R117), "with four unsigned arguments of any size": all or nothing, then the staging
registers take the live codes. -/
def install (lf ld mf md : Nat) (r : Regs) : Regs :=
  syncStaging
    (if acceptable lf ld mf md then
      flagAccepted { r with led := withCodes lf ld r.led, mag := withCodes mf md r.mag }
    else flagRejected r)

/-- The install of `CMD.APPLY`: the arguments are the four staging registers, all 32 bits of each (R112). -/
def applyStaged (r : Regs) : Regs :=
  install r.stgLedFreq.toNat r.stgLedDuty.toNat r.stgMagFreq.toNat r.stgMagDuty.toNat r

/-- The install of `CMD.DEFAULTS`: the arguments are the default parameters (R113). -/
def applyDefaults (p : Params) (r : Regs) : Regs :=
  install p.defLedFreq.toNat p.defLedDuty.toNat p.defMagFreq.toNat p.defMagDuty.toNat r

/-- `CMD.APPLY` (R112). -/
def execCmdApply (s : State) : Host.Outcome State Fault Refusal := .next (onRegs applyStaged s)

/-- `CMD.DEFAULTS` (R113). -/
def execCmdDefaults (s : State) : Host.Outcome State Fault Refusal := .next (onRegs (applyDefaults s.params) s)

/-- `CMD.RSVD v` (R114, R61): nothing; `REJECT` and `SAVE_REQ` keep their values. -/
def execCmdRsvd (_v : U32) (s : State) : Host.Outcome State Fault Refusal := .next (driveZero s)

end Sys2Proof.Machine
end

