-- ==== Sys2Proof/Machine/Ignored.lean ====
section
/-! DEFINITION. `WR.IGN a, v` (R115), and the write to the address space as one function (R42). -/

namespace Sys2Proof.Machine

/-- `WR.IGN a, v` (R115, R60): a write to a read-only or reserved address does nothing. -/
def execWrIgn (_a : RegName) (_v : U32) (s : State) : Host.Outcome State Fault Refusal := .next (driveZero s)

/-- `MemWrite(a, 4, v)` (R42, R35): a staging register takes the value, `CMD` runs the command the value selects,
every other address does nothing. The meanings above are its cases; that they agree is stated of `exec`. -/
def memWrite (p : Params) (a : RegName) (v : U32) (r : Regs) : Regs :=
  match a with
  | .cmd => if v = 1 then applyStaged r else if v = 2 then applyDefaults p r else r
  | .stgLedFreq => { r with stgLedFreq := v }
  | .stgLedDuty => { r with stgLedDuty := v }
  | .stgMagFreq => { r with stgMagFreq := v }
  | .stgMagDuty => { r with stgMagDuty := v }
  | .status | .ledFreq | .ledDuty | .magFreq | .magDuty => r
  | .ledHighUs | .ledLowUs | .magHighUs | .magLowUs | .rsvd14 | .rsvd15 => r

end Sys2Proof.Machine
end

