-- ==== Sys2Proof/Machine/Read.lean ====
section
/-! DEFINITION. `RD a` (R106). -/

namespace Sys2Proof.Machine

/-- The registers a read sees: "A read returns the state `S(n)` as it was before any phase of tick `n`" (R46, R26);
where no tick is in progress, the registers as they stand (log 3). -/
def readView (s : State) : Regs := s.latch.getD s.regs

/-- `RD a` (R106): `rdata <- MemRead(a, 4)`; no register is written. -/
def execRd (a : RegName) (s : State) : Host.Outcome State Fault Refusal :=
  .next { s with rdata := memRead a (readView s) }

end Sys2Proof.Machine
end

