-- ==== Sys2Proof/Machine/Dispatch.lean ====
section
/-! DEFINITION. One arm per host transaction: its effect in the host phase P3 (R139). -/

namespace Sys2Proof.Machine

def exec (i : Instr) (s : State) : Host.Outcome State Fault Refusal :=
  match i with
  | .nop => Sys2Proof.Machine.execNop s
  | .rd a => Sys2Proof.Machine.execRd a s
  | .cmdApply => Sys2Proof.Machine.execCmdApply s
  | .cmdDefaults => Sys2Proof.Machine.execCmdDefaults s
  | .cmdRsvd v => Sys2Proof.Machine.execCmdRsvd v s
  | .wrStgLedFreq v => Sys2Proof.Machine.execWrStgLedFreq v s
  | .wrStgLedDuty v => Sys2Proof.Machine.execWrStgLedDuty v s
  | .wrStgMagFreq v => Sys2Proof.Machine.execWrStgMagFreq v s
  | .wrStgMagDuty v => Sys2Proof.Machine.execWrStgMagDuty v s
  | .wrIgn a v => Sys2Proof.Machine.execWrIgn a v s
  | .rsvd3 => Sys2Proof.Machine.execRsvd3 s

end Sys2Proof.Machine
end

