-- ==== Sys2Proof/WellFormed.lean ====
section
/-! DEFINITION. Which transactions R58 can classify a word as. -/

namespace Sys2Proof

/-- R35, R58 row 5: a command value that is neither `APPLY` (1) nor `DEFAULTS` (2), compared on all 32 bits. -/
def isReservedCommand (v : U32) : Bool := v != 1 && v != 2

/-- R58 row 10: the addresses whose writes are ignored, 1 and 6 to 15. -/
def isIgnoredOnWrite : RegName → Bool
  | .cmd | .stgLedFreq | .stgLedDuty | .stgMagFreq | .stgMagDuty => false
  | .status | .ledFreq | .ledDuty | .magFreq | .magDuty => true
  | .ledHighUs | .ledLowUs | .magHighUs | .magLowUs | .rsvd14 | .rsvd15 => true

/-- A transaction is well-formed when its operands are those its row of R58 admits: `CMD.RSVD` carries a value other
than 1 and 2, and `WR.IGN` a read-only or reserved address. Every other row admits every operand. -/
def Instr.wellFormed : Instr → Bool
  | .nop => true
  | .rd _ => true
  | .cmdApply => true
  | .cmdDefaults => true
  | .cmdRsvd v => isReservedCommand v
  | .wrStgLedFreq _ => true
  | .wrStgLedDuty _ => true
  | .wrStgMagFreq _ => true
  | .wrStgMagDuty _ => true
  | .wrIgn a _ => isIgnoredOnWrite a
  | .rsvd3 => true

end Sys2Proof
end

