-- ==== Sys2Proof/Decode.lean ====
section
/-! DEFINITION. The transaction word (R55 to R61, R64): the decoder, total on every 38-bit word, the encoder, and the
opcode table itself as rows of mask and match (spec/opcode_table.json, in the order of R58). -/

namespace Sys2Proof

/-! ### Register addresses (R33) -/

/-- The word address of a register (R33). -/
def RegName.addr : RegName → Addr
  | .cmd => 0
  | .status => 1
  | .stgLedFreq => 2
  | .stgLedDuty => 3
  | .stgMagFreq => 4
  | .stgMagDuty => 5
  | .ledFreq => 6
  | .ledDuty => 7
  | .magFreq => 8
  | .magDuty => 9
  | .ledHighUs => 10
  | .ledLowUs => 11
  | .magHighUs => 12
  | .magLowUs => 13
  | .rsvd14 => 14
  | .rsvd15 => 15

/-- The register at a word address (R33): every value of the 4-bit address names a whole register (R44). -/
def RegName.ofAddr (a : Addr) : RegName :=
  match a.toNat with
  | 0 => .cmd
  | 1 => .status
  | 2 => .stgLedFreq
  | 3 => .stgLedDuty
  | 4 => .stgMagFreq
  | 5 => .stgMagDuty
  | 6 => .ledFreq
  | 7 => .ledDuty
  | 8 => .magFreq
  | 9 => .magDuty
  | 10 => .ledHighUs
  | 11 => .ledLowUs
  | 12 => .magHighUs
  | 13 => .magLowUs
  | 14 => .rsvd14
  | _ => .rsvd15

/-! ### The fields of a word (R55) -/

/-- Bits 37:36. -/
def opField (t : TxnWord) : BitVec 2 := t.extractLsb' 36 2

/-- Bits 35:32. -/
def addrField (t : TxnWord) : Addr := t.extractLsb' 32 4

/-- Bits 31:0. -/
def dataField (t : TxnWord) : U32 := t.extractLsb' 0 32

/-- `T = {op[1:0], addr[3:0], data[31:0]}` (R55). -/
def txnWord (op : BitVec 2) (addr : Addr) (data : U32) : TxnWord := op ++ addr ++ data

/-! ### The decoder (R58) -/

/-- Rows 3 to 5 of R58: a write to `CMD`, compared on all 32 bits of the data (R35). -/
def decodeCommand (v : U32) : Instr :=
  if v = 1 then .cmdApply else if v = 2 then .cmdDefaults else .cmdRsvd v

/-- Rows 3 to 10 of R58: a write, by its address. -/
def decodeWrite (a : RegName) (v : U32) : Instr :=
  match a with
  | .cmd => decodeCommand v
  | .stgLedFreq => .wrStgLedFreq v
  | .stgLedDuty => .wrStgLedDuty v
  | .stgMagFreq => .wrStgMagFreq v
  | .stgMagDuty => .wrStgMagDuty v
  | .status => .wrIgn .status v
  | .ledFreq => .wrIgn .ledFreq v
  | .ledDuty => .wrIgn .ledDuty v
  | .magFreq => .wrIgn .magFreq v
  | .magDuty => .wrIgn .magDuty v
  | .ledHighUs => .wrIgn .ledHighUs v
  | .ledLowUs => .wrIgn .ledLowUs v
  | .magHighUs => .wrIgn .magHighUs v
  | .magLowUs => .wrIgn .magLowUs v
  | .rsvd14 => .wrIgn .rsvd14 v
  | .rsvd15 => .wrIgn .rsvd15 v

/-- R58: "every 38-bit word matches exactly one row, so decoding is total". No parameter changes it (R64). -/
def decode (t : TxnWord) : Instr :=
  match (opField t).toNat with
  | 0 => .nop
  | 1 => .rd (RegName.ofAddr (addrField t))
  | 2 => decodeWrite (RegName.ofAddr (addrField t)) (dataField t)
  | _ => .rsvd3

/-- Why a number is no transaction: it does not fit the 38 bits of R55. There is no other rejection (R60). -/
inductive DecodeReject where
  | widerThan38Bits
  deriving DecidableEq, Repr

/-- Decoding of a number written as R62 writes a word ("ten hex digits of the 38-bit word (the top two bits of the
first digit are 0)"): a number of 2^38 or more is no word of this port (log 7). -/
def decodeNumber (w : Nat) : Except DecodeReject Instr :=
  if w < 2 ^ 38 then .ok (decode (BitVec.ofNat 38 w)) else .error .widerThan38Bits

/-- The host's reading of an opcode-table row: the low `nbits` bits of `w`, all bits above them 0. -/
def decodeTableWord (nbits w : Nat) : Option Instr :=
  match decodeNumber (w % 2 ^ nbits) with
  | .ok i => some i
  | .error _ => none

/-! ### The encoder (R55, R62) -/

/-- The word of a transaction. Ignored fields are 0, as R62 writes them. -/
def encode : Instr → TxnWord
  | .nop => txnWord 0 0 0
  | .rd a => txnWord 1 a.addr 0
  | .cmdApply => txnWord 2 RegName.cmd.addr 1
  | .cmdDefaults => txnWord 2 RegName.cmd.addr 2
  | .cmdRsvd v => txnWord 2 RegName.cmd.addr v
  | .wrStgLedFreq v => txnWord 2 RegName.stgLedFreq.addr v
  | .wrStgLedDuty v => txnWord 2 RegName.stgLedDuty.addr v
  | .wrStgMagFreq v => txnWord 2 RegName.stgMagFreq.addr v
  | .wrStgMagDuty v => txnWord 2 RegName.stgMagDuty.addr v
  | .wrIgn a v => txnWord 2 a.addr v
  | .rsvd3 => txnWord 3 0 0

/-! ### The opcode table as rows -/

/-- The mnemonics of R58. -/
inductive Mnemonic where
  | NOP
  | RD
  | CMD_APPLY
  | CMD_DEFAULTS
  | CMD_RSVD
  | WR_STG_LED_FREQ
  | WR_STG_LED_DUTY
  | WR_STG_MAG_FREQ
  | WR_STG_MAG_DUTY
  | WR_IGN
  | RSVD3
  deriving DecidableEq, Repr

/-- The mnemonic of a transaction. -/
def Instr.mnemonic : Instr → Mnemonic
  | .nop => .NOP
  | .rd _ => .RD
  | .cmdApply => .CMD_APPLY
  | .cmdDefaults => .CMD_DEFAULTS
  | .cmdRsvd _ => .CMD_RSVD
  | .wrStgLedFreq _ => .WR_STG_LED_FREQ
  | .wrStgLedDuty _ => .WR_STG_LED_DUTY
  | .wrStgMagFreq _ => .WR_STG_MAG_FREQ
  | .wrStgMagDuty _ => .WR_STG_MAG_DUTY
  | .wrIgn _ _ => .WR_IGN
  | .rsvd3 => .RSVD3

/-- One row of spec/opcode_table.json: a word is of the row when it equals `pattern` under `mask`. -/
structure OpcodeRow where
  name : Mnemonic
  mask : TxnWord
  pattern : TxnWord
  deriving DecidableEq, Repr

def OpcodeRow.fits (r : OpcodeRow) (t : TxnWord) : Bool := t &&& r.mask == r.pattern

/-- spec/opcode_table.json, in its priority order (R58: the first row that matches). -/
def opcodeRows : List OpcodeRow :=
  [ ⟨.NOP, 0x3000000000, 0x0000000000⟩,
    ⟨.RD, 0x3000000000, 0x1000000000⟩,
    ⟨.CMD_APPLY, 0x3FFFFFFFFF, 0x2000000001⟩,
    ⟨.CMD_DEFAULTS, 0x3FFFFFFFFF, 0x2000000002⟩,
    ⟨.CMD_RSVD, 0x3F00000000, 0x2000000000⟩,
    ⟨.WR_STG_LED_FREQ, 0x3F00000000, 0x2200000000⟩,
    ⟨.WR_STG_LED_DUTY, 0x3F00000000, 0x2300000000⟩,
    ⟨.WR_STG_MAG_FREQ, 0x3F00000000, 0x2400000000⟩,
    ⟨.WR_STG_MAG_DUTY, 0x3F00000000, 0x2500000000⟩,
    ⟨.WR_IGN, 0x3F00000000, 0x2100000000⟩,
    ⟨.WR_IGN, 0x3E00000000, 0x2600000000⟩,
    ⟨.WR_IGN, 0x3800000000, 0x2800000000⟩,
    ⟨.RSVD3, 0x3000000000, 0x3000000000⟩ ]

/-- The mnemonic the table gives a word: that of the first row it fits. -/
def tableMnemonic (t : TxnWord) : Option Mnemonic := (opcodeRows.find? (·.fits t)).map (·.name)

end Sys2Proof
end

