-- ==== Sys2Proof/Machine/Button.lean ====
section
/-! DEFINITION. Button sampling, edge detection, debounce and the enable/disable controller
(42_button_enable.md; P2 of the tick, 45_tick_step.md R140). -/

namespace Sys2Proof.Machine

/-- A raw falling edge at this tick (R90). -/
def fallingEdge (btn : Bool) (r : Regs) : Bool := r.btnPrev && !btn

/-- The debounce test (R91): "at least" the window since the last accepted edge, or no accepted edge yet. -/
def passesDebounce (p : Params) (r : Regs) : Bool :=
  !r.lastValid || decide (p.debounceUs ≤ elapsedSince r.lastAccept r)

/-- An accepted edge at this tick: a raw falling edge that passes the debounce test. -/
def acceptsEdge (p : Params) (btn : Bool) (r : Regs) : Bool := fallingEdge btn r && passesDebounce p r

/-- The disable action (R96). -/
def disable (r : Regs) : Regs :=
  { stop .mag (stop .led r) with en := false }

/-- The enable action (R97). -/
def enable (r : Regs) : Regs :=
  start .mag (start .led { r with en := true })

/-- R95 (canonical) or R123 (legacy), on an accepted edge. -/
def controllerAction (p : Params) (r : Regs) : Regs :=
  if p.legacyModes then advanceMode p r
  else if r.en then disable r
  else enable r

/-- Acceptance (R92). -/
def acceptEdge (p : Params) (r : Regs) : Regs :=
  controllerAction p { r with lastAccept := r.now, lastValid := true }

/-- P2 (R140): sample, detect, debounce, act. A dropped edge raises DebounceReject (R149), which writes nothing
(R93). -/
def buttonPhase (p : Params) (btn : Bool) (r : Regs) : Regs :=
  let sampled := { r with btnPrev := btn }
  if fallingEdge btn r then
    if passesDebounce p r then acceptEdge p sampled else raise .debounceReject sampled
  else sampled

end Sys2Proof.Machine
end

