-- ==== Sys2Proof/Machine/Oscillator.lean ====
section
/-! DEFINITION. The channel oscillator's timer phase (41_oscillator.md R82 to R84, 45_tick_step.md R138). -/

namespace Sys2Proof.Machine

/-- The guard of R83. -/
def mayToggle (c : Channel) (r : Regs) : Bool := enEff c r && (chan c r).armed && !(chan c r).fail

/-- The duration that belongs to a level (R83): HIGH to `HIGH_US`, LOW to `LOW_US`. -/
def durationOf (x : ChannelRegs) (level : Bool) : U32 := if level then x.highUs else x.lowUs

/-- A channel after the toggle and the reload of R83. A zero duration cannot occur from reset; if the state holds one
the counter is left idle, as U1 says (DEDUCED, log 5). -/
def toggled (x : ChannelRegs) : ChannelRegs :=
  { x with level := !x.level, cnt := durationOf x (!x.level) }

/-- Expiry of channel `c` (R83), with the guard clause of R84: not enabled, the timer is left idle. -/
def expire (c : Channel) (r : Regs) : Regs :=
  if mayToggle c r then setChan c (toggled (chan c r)) r
  else setChan c { chan c r with cnt := 0 } r

/-- The countdown of channel `c` (R82). It looks at neither `EN` nor `ARMED[c]`. -/
def countdown (c : Channel) (r : Regs) : Regs :=
  if (chan c r).cnt = 0 then r
  else if (chan c r).cnt = 1 then expire c r
  else setChan c { chan c r with cnt := (chan c r).cnt - 1 } r

/-- P1 (R138): the LED channel, then the magnet channel. -/
def timerPhase (r : Regs) : Regs := countdown .mag (countdown .led r)

end Sys2Proof.Machine
end

