-- ==== Sys2Proof/Machine/Tick.lean ====
section
/-! DEFINITION. The tick around the host phase (45_tick_step.md): where its inputs come from, the reset tick, the
phases before and after P3, and the outputs. -/

namespace Sys2Proof.Machine

/-! ### The inputs of a tick (R29) -/

/-- The inputs of the coming tick: the head of the list; where none is listed, the pins as they were and `NOP`, "A
tick in which the host does nothing carries `NOP`" (R55; DESIGN CHOICE, log 1). -/
def nextInput (s : State) : TickInput :=
  match s.inputs with
  | [] => ⟨s.pins, 0⟩
  | i :: _ => i

/-- The coming tick's inputs are sampled: its pins are the present ones, its entry leaves the list. -/
def takeInput (s : State) : State :=
  { s with pins := (nextInput s).pins, inputs := s.inputs.tail }

/-- Put a transaction where the coming tick finds it: the pins of that tick stay, but for `rst`, which a reset tick
would hold at 1 and which is set to 0 so that the transaction is decoded (R143, R166; log 7). -/
def placeWord (w : TxnWord) (s : State) : State :=
  { s with inputs := ⟨{ (nextInput s).pins with rst := false }, w⟩ :: s.inputs.tail }

/-! ### The phases (R136) -/

/-- The registers after P0, P1 and P2, from those at the start of the tick: what P3 sees (R139). -/
def regsBeforeHost (p : Params) (btn : Bool) (r : Regs) : Regs :=
  buttonPhase p btn (timerPhase (clearSaveReq r))

/-- P5 (R142). -/
def advanceNow (r : Regs) : Regs := { r with now := r.now + 1 }

/-- The registers after P4 and P5, from those P3 leaves. -/
def regsAfterHost (p : Params) (r : Regs) : Regs := advanceNow (idlePhase p r)

/-- The tick up to the host phase. The registers at its start are kept for a read (R26). -/
def beforeHost (s : State) : State :=
  { s with regs := regsBeforeHost s.params s.pins.btn s.regs, latch := some s.regs }

/-- The tick from the host phase on. -/
def afterHost (s : State) : State :=
  { s with regs := regsAfterHost s.params s.regs, latch := none }

/-- The reset tick (R143): the next state is the reset state of the parameters and the straps sampled in this tick;
"`btn` and `host` are ignored, no phase P0 to P5 runs, and `rdata = 0`". -/
def resetTick (s : State) : State :=
  { s with regs := resetRegs s.params s.pins.initFail, latch := none, rdata := 0 }

/-! ### The outputs -/

/-- The outputs of a tick (R28, R26). -/
structure Outputs where
  ledOut : Bool
  magOut : List Bool
  saveReq : Bool
  rdata : U32
  deriving DecidableEq, Repr

/-- `rdata` of the coming tick (R26): `MemRead` of the state at its start for `RD`, else 0. -/
def rdataOf (r : Regs) (i : TickInput) : U32 :=
  if i.pins.rst then 0
  else match decode i.host with
    | .rd a => memRead a r
    | .nop | .cmdApply | .cmdDefaults | .cmdRsvd _ | .wrStgLedFreq _ | .wrStgLedDuty _ => 0
    | .wrStgMagFreq _ | .wrStgMagDuty _ | .wrIgn _ _ | .rsvd3 => 0

/-- The outputs at the coming tick (R28, R144 `outputs`): every magnet line carries the same value (R88). -/
def outputs (s : State) : Outputs where
  ledOut := s.regs.led.level
  magOut := List.replicate s.params.nMag s.regs.mag.level
  saveReq := s.regs.saveReq
  rdata := rdataOf s.regs (nextInput s)

end Sys2Proof.Machine
end

