-- ==== Sys2Proof/Machine/Step.lean ====
section
/-! DEFINITION. One step of the machine is one tick (R135). -/

namespace Sys2Proof.Machine

/-- The tick (R136): a reset tick when `rst = 1`, else the phases in order, the host phase being the decoded
transaction's own meaning (R139). -/
def step (s : State) : Host.Outcome State Fault Refusal :=
  let s₁ := takeInput s
  if s₁.pins.rst then .next (resetTick s₁)
  else
    match exec (decode (nextInput s).host) (beforeHost s₁) with
    | .next t => .next (afterHost t)
    | .fault f => .fault f
    | .refused r => .refused r

/-- `s` with the transaction word of an opcode-table row presented to the coming tick, which is not a reset tick. -/
def State.withFetchWord (s : State) (nbits w : Nat) : State :=
  placeWord (BitVec.ofNat 38 (w % 2 ^ nbits)) s

end Sys2Proof.Machine
end

