-- ==== Sys2Proof/Machine/Pseudocode.lean ====
section
/-! DEFINITION. The whole step as R144 writes it, one procedure over the registers and the raw fields of the host word,
kept apart from the step the machine runs: that the two agree is stated in the obligations. `install`, `start`, `stop`
and `en_eff` are R144's own references; the timer, the button, the transaction and the idle check are written out. -/

namespace Sys2Proof.Machine

/-- The P1 loop body of R144. -/
def pseudoTimer (c : Channel) (S : Regs) : Regs :=
  if (chan c S).cnt.toNat = 1 then
    if enEff c S && (chan c S).armed && !(chan c S).fail then
      let S := setChan c { chan c S with level := !(chan c S).level } S
      setChan c { chan c S with cnt := if (chan c S).level then (chan c S).highUs else (chan c S).lowUs } S
    else setChan c { chan c S with cnt := 0 } S
  else if 2 ≤ (chan c S).cnt.toNat then
    setChan c { chan c S with cnt := BitVec.ofNat 32 ((chan c S).cnt.toNat - 1) } S
  else S

/-- `enter_run()` of R144: R126. -/
def pseudoEnterRun (p : Params) (S : Regs) : Regs :=
  let S := { S with mode := .run }
  let S := { S with en := true }
  let S := { S with magOvr := false }
  let S := { S with mag := { S.mag with freq := p.magBaseFreq } }
  let S := { S with stgMagFreq := BitVec.ofNat 32 p.magBaseFreq.toNat }
  let pair := calcPair p.magBaseFreq.toNat S.mag.duty.toNat
  let S := { S with mag := { S.mag with highUs := pair.high, lowUs := pair.low } }
  let S := start .led S
  let S := start .mag S
  { S with runSince := S.now }

/-- The accepted-edge branch of R144. -/
def pseudoAccepted (p : Params) (S : Regs) : Regs :=
  let S := { S with lastAccept := S.now }
  let S := { S with lastValid := true }
  if p.legacyModes = false then
    if S.en then { stop .mag (stop .led S) with en := false }
    else start .mag (start .led { S with en := true })
  else
    if S.mode = .run then stop .mag { S with mode := .magnetOff, magOvr := true }
    else if S.mode = .magnetOff then stop .mag (stop .led { S with mode := .allOff, en := false })
    else if S.mode = .allOff then pseudoEnterRun p S
    else S

/-- P2 of R144. -/
def pseudoButton (p : Params) (btn : Bool) (S : Regs) : Regs :=
  let fall := S.btnPrev == true && btn == false
  let S := { S with btnPrev := btn }
  if fall = true ∧ (S.lastValid = false ∨ p.debounceUs ≤ (S.now - S.lastAccept).toNat) then pseudoAccepted p S
  else S

/-- P3 of R144, over the three fields of the word as numbers. -/
def pseudoHost (p : Params) (host : Nat) (S : Regs) : Regs :=
  let op := host / 2 ^ 36 % 4
  let addr := host / 2 ^ 32 % 16
  let data := host % 2 ^ 32
  if op = 2 then
    if addr = 0 ∧ data = 1 then
      install S.stgLedFreq.toNat S.stgLedDuty.toNat S.stgMagFreq.toNat S.stgMagDuty.toNat S
    else if addr = 0 ∧ data = 2 then
      install p.defLedFreq.toNat p.defLedDuty.toNat p.defMagFreq.toNat p.defMagDuty.toNat S
    else if addr = 2 then { S with stgLedFreq := BitVec.ofNat 32 data }
    else if addr = 3 then { S with stgLedDuty := BitVec.ofNat 32 data }
    else if addr = 4 then { S with stgMagFreq := BitVec.ofNat 32 data }
    else if addr = 5 then { S with stgMagDuty := BitVec.ofNat 32 data }
    else S
  else S

/-- P4 of R144. -/
def pseudoIdle (p : Params) (S : Regs) : Regs :=
  if p.legacyModes = true ∧ S.mode = .run ∧ p.idleTimeoutUs ≤ (S.now - S.runSince).toNat then
    stop .mag (stop .led { S with mode := .allOff, en := false, magOvr := true })
  else S

/-- `tick(params, rst, init_fail, btn, host, S)` of R144. -/
def pseudoTick (p : Params) (i : TickInput) (S : Regs) : Regs :=
  if i.pins.rst then resetRegs p i.pins.initFail
  else
    let S := { S with saveReq := false }
    let S := pseudoTimer .led S
    let S := pseudoTimer .mag S
    let S := pseudoButton p i.pins.btn S
    let S := pseudoHost p i.host.toNat S
    let S := pseudoIdle p S
    { S with now := BitVec.ofNat 64 ((S.now.toNat + 1) % 2 ^ 64) }

end Sys2Proof.Machine
end

