-- ==== Sys2Proof/Safety.lean ====
section
/-! DEFINITION. What counts as a good state and as an undisturbed tick, in the terms the obligations use: the
invariants of R30, the events of R151, the lines of R28 and runs of ticks. -/

namespace Sys2Proof.Machine

/-! ### The invariants of R30 -/

/-- R30 items 1 to 9 and the first half of item 10, for registers under parameters. -/
structure RegsInv (p : Params) (r : Regs) : Prop where
  /-- Item 1. -/
  codesValid : ∀ c, valid (chan c r).freq.toNat (chan c r).duty.toNat = true
  /-- Item 2, the pair. -/
  pairMatches : ∀ c, (⟨(chan c r).highUs, (chan c r).lowUs⟩ : IntervalPair) =
    calcPair (chan c r).freq.toNat (chan c r).duty.toNat
  /-- Item 2, its consequences. -/
  pairPositive : ∀ c, 1 ≤ (chan c r).highUs.toNat ∧ 1 ≤ (chan c r).lowUs.toNat
  /-- Item 2, the sum. -/
  pairSum : ∀ c, (chan c r).highUs.toNat + (chan c r).lowUs.toNat = period (chan c r).freq.toNat ∧
    153 ≤ (chan c r).highUs.toNat + (chan c r).lowUs.toNat ∧
    (chan c r).highUs.toNat + (chan c r).lowUs.toNat ≤ 10000000
  /-- Item 3. -/
  armedIff : ∀ c, (chan c r).armed = (enEff c r && !(chan c r).fail)
  /-- Item 4. -/
  armedCounting : ∀ c, (chan c r).armed = true → 1 ≤ (chan c r).cnt.toNat
  /-- Item 5. -/
  haltedLow : ∀ c, (chan c r).armed = false → (chan c r).level = false
  /-- Item 6. -/
  cntBound : ∀ c, (chan c r).cnt.toNat ≤ 10000000 - 1
  /-- Item 7. -/
  failedIdle : ∀ c, (chan c r).fail = true → (chan c r).cnt = 0
  /-- Item 8. -/
  canonicalMode : p.legacyModes = false → r.mode = .off ∧ r.magOvr = false ∧ r.runSince = 0
  /-- Item 9. -/
  legacyMode : p.legacyModes = true →
    (r.mode = .run ∧ r.en = true ∧ r.magOvr = false) ∨
    (r.mode = .magnetOff ∧ r.en = true ∧ r.magOvr = true) ∨
    (r.mode = .allOff ∧ r.en = false ∧ r.magOvr = true)
  /-- Item 10, first half. -/
  noAcceptYet : r.lastValid = false → r.lastAccept = 0

/-- R30 item 10, second half: it holds "as long as fewer than 2^64 ticks have run". -/
def acceptedBeforeNow (r : Regs) : Prop := r.lastValid = true → r.lastAccept.toNat < r.now.toNat

/-- A good state between two ticks: the parameters are an SDT2's (R4), the registers meet R30, no tick is in
progress. -/
structure GoodState (s : State) : Prop where
  params : s.params.WellFormed
  regs : RegsInv s.params s.regs
  between : s.latch = none

/-! ### The events of the coming tick (R151) -/

/-- The coming tick is a reset tick (R143). -/
def isResetTick (s : State) : Bool := (nextInput s).pins.rst

/-- The coming tick accepts a button edge (R151, R92), if it is no reset tick. -/
def edgeAccepted (s : State) : Bool := acceptsEdge s.params (nextInput s).pins.btn s.regs

/-- The coming tick's transaction. -/
def comingTxn (s : State) : Instr := decode (nextInput s).host

/-- The idle timeout fires in the coming tick, if it is no reset tick: in RUN, its time is over and no accepted edge
leaves RUN first (R127, R153). -/
def idleFires (s : State) : Bool := idleDue s.params s.regs && !edgeAccepted s

/-- The coming tick stops or restarts channel `c` (R87, R86): a reset tick, the idle timeout, or an accepted edge,
except that the edge from RUN to MAGNET_OFF leaves the LED channel alone (R124). -/
def touchesChannel (c : Channel) (s : State) : Bool :=
  isResetTick s || idleFires s ||
    (edgeAccepted s && !(s.params.legacyModes && s.regs.mode == .run && c == .led))

/-- The coming tick carries an install that is accepted, judged on the registers P3 sees (R117, R139). -/
def installAccepted (s : State) : Bool :=
  let r := regsBeforeHost s.params (nextInput s).pins.btn s.regs
  match comingTxn s with
  | .cmdApply => acceptable r.stgLedFreq.toNat r.stgLedDuty.toNat r.stgMagFreq.toNat r.stgMagDuty.toNat
  | .cmdDefaults => acceptable s.params.defLedFreq.toNat s.params.defLedDuty.toNat
      s.params.defMagFreq.toNat s.params.defMagDuty.toNat
  | .nop | .rd _ | .cmdRsvd _ | .wrStgLedFreq _ | .wrStgLedDuty _ => false
  | .wrStgMagFreq _ | .wrStgMagDuty _ | .wrIgn _ _ | .rsvd3 => false

/-- The coming tick carries an install command, accepted or not. -/
def isInstall (s : State) : Bool :=
  comingTxn s == .cmdApply || comingTxn s == .cmdDefaults

/-! ### Lines and runs -/

/-- Every output line is at the inactive level (R28). -/
def linesInactive (s : State) : Prop :=
  (outputs s).ledOut = false ∧ ∀ x ∈ (outputs s).magOut, x = false

/-- `k` ticks from `s`. -/
abbrev runTicks (k : Nat) (s : State) : Host.Outcome State Fault Refusal := Sys2Proof.core.run k s

end Sys2Proof.Machine
end

