-- ==== Sys2Proof/Certificates/Slice0/Obligations.lean ====
section
/-! DEFINITION. The statements for the provers. Each docstring names the rule or section of spec/ it formalises. -/

open Sys2Proof Sys2Proof.Machine

/-! ### Reset -/

/-- 45_tick_step.md section 2 (R143): a reset tick, from any state whatever. What it leaves in the registers and drives
on `rdata` is that rule's. That the tick takes its entry off the list of inputs and leaves its pins (log 1), that no
latch remains and that `rdata` is recorded (log 3) are the model's choice. -/
def Obligations.ResetTickGivesTheResetState : Prop :=
  ∀ s : State, isResetTick s = true →
    (outputs s).rdata = 0 ∧
    ∃ t, step s = .next t ∧ t.regs = resetRegs s.params (nextInput s).pins.initFail ∧ t.regs.now = 0 ∧
      t.rdata = 0 ∧ t.latch = none ∧ t.params = s.params ∧ t.pins = (nextInput s).pins ∧ t.inputs = s.inputs.tail

/-- R36: the table of reset values, for all parameters and straps and in both variants, against the procedure of R167;
then the values at the default parameters. -/
def Obligations.ResetRegistersMeetTheTable : Prop :=
  (∀ (p : Params) (f : Straps),
    let r := resetRegs p f
    r.now = 0 ∧
    r.led.freq = p.defLedFreq ∧ r.led.duty = p.defLedDuty ∧
    r.mag.freq = (if p.legacyModes = true ∧ p.modeReset = .run then p.magBaseFreq else p.defMagFreq) ∧
    r.mag.duty = p.defMagDuty ∧
    (∀ c, (⟨(chan c r).highUs, (chan c r).lowUs⟩ : IntervalPair) =
      calcPair (chan c r).freq.toNat (chan c r).duty.toNat) ∧
    r.led.fail = f.led ∧ r.mag.fail = f.mag ∧
    r.en = (if p.legacyModes then decide (p.modeReset = .run ∨ p.modeReset = .magnetOff) else p.enReset) ∧
    r.magOvr = (if p.legacyModes then decide (p.modeReset ≠ .run) else false) ∧
    r.mode = (if p.legacyModes then modeOfReset p.modeReset else .off) ∧
    r.runSince = 0 ∧
    (∀ c, (chan c r).level = false ∧ (chan c r).armed = (enEff c r && !(chan c r).fail) ∧
      (chan c r).cnt = if (chan c r).armed then (chan c r).lowUs else 0) ∧
    r.btnPrev = false ∧ r.lastAccept = 0 ∧ r.lastValid = false ∧
    r.stgLedFreq = zext32 r.led.freq ∧ r.stgLedDuty = zext32 r.led.duty ∧
    r.stgMagFreq = zext32 r.mag.freq ∧ r.stgMagDuty = zext32 r.mag.duty ∧
    r.reject = false ∧ r.saveReq = false) ∧
  (let r := State.reset.regs;
    r.led.freq = 805 ∧ r.mag.freq = 798 ∧ r.led.duty = 500 ∧ r.mag.duty = 500 ∧
    r.led.highUs = 6211 ∧ r.mag.highUs = 6266 ∧ r.led.lowUs = 6211 ∧ r.mag.lowUs = 6265 ∧
    r.en = true ∧ r.led.armed = true ∧ r.mag.armed = true ∧ r.led.cnt = 6211 ∧ r.mag.cnt = 6265 ∧
    r.led.level = false ∧ r.mag.level = false ∧ statusWord r = 0x00000019)

/-- 10_state.md section 8 (R30), at the default reset state; that no tick is in progress is said of the model's own field
(log 3). -/
def Obligations.DefaultResetIsAGoodState : Prop := GoodState State.reset

/-- 10_state.md section 8 (R30), at the reset state of any SDT2 with any straps; that no tick is in progress is said of
the model's own field (log 3). -/
def Obligations.EveryResetIsAGoodState : Prop :=
  ∀ (p : Params) (f : Straps), p.WellFormed → GoodState (State.resetWith p f)

/-! ### The step -/

/-- 45_tick_step.md sections 1 and 2 (R136, R139): a tick that is no reset tick is the phases before the host phase, the
meaning of the decoded transaction, and the phases after it. -/
def Obligations.StepRunsTheDecodedTransaction : Prop :=
  ∀ (s : State) (i : Instr), isResetTick s = false → decode (nextInput s).host = i →
    step s =
      match exec i (beforeHost (takeInput s)) with
      | .next t => .next (afterHost t)
      | .fault f => .fault f
      | .refused r => .refused r

/-- How a transaction is presented: after `withFetchWord` the coming tick is no reset tick and carries exactly the
transaction the decoder reads from the word; the pins but for `rst`, and all else, stay (the model's convention,
log 7). -/
def Obligations.WithFetchWordPresentsTheTransaction : Prop :=
  ∀ (s : State) (nbits w : Nat) (i : Instr), decodeTableWord nbits w = some i →
    let u := s.withFetchWord nbits w
    isResetTick u = false ∧ comingTxn u = i ∧
    (nextInput u).pins.btn = (nextInput s).pins.btn ∧ (nextInput u).pins.initFail = (nextInput s).pins.initFail ∧
    u.regs = s.regs ∧ u.params = s.params ∧ u.latch = s.latch ∧ u.rdata = s.rdata ∧ u.pins = s.pins ∧
    u.inputs.tail = s.inputs.tail

/-- R144: the step is the whole tick as that rule writes it, and so are the outputs. -/
def Obligations.StepIsTheProcedureOfR144 : Prop :=
  ∀ s : State,
    (∃ t, step s = .next t ∧ t.regs = pseudoTick s.params (nextInput s) s.regs) ∧
    (outputs s).ledOut = s.regs.led.level ∧
    (outputs s).magOut.length = s.params.nMag ∧ (∀ x ∈ (outputs s).magOut, x = s.regs.mag.level) ∧
    (outputs s).saveReq = s.regs.saveReq ∧
    (outputs s).rdata =
      (if (nextInput s).pins.rst = false ∧ (nextInput s).host.toNat / 2 ^ 36 % 4 = 1 then
        memRead (RegName.ofAddr (BitVec.ofNat 4 ((nextInput s).host.toNat / 2 ^ 32 % 16))) s.regs
      else 0)

/-- R11: `NOW` counts the ticks since reset, modulo 2^64. -/
def Obligations.NowCountsTicksSinceReset : Prop :=
  ∀ s t : State, step s = .next t →
    (isResetTick s = true → t.regs.now = 0) ∧
    (isResetTick s = false → t.regs.now.toNat = (s.regs.now.toNat + 1) % 2 ^ 64)

/-- 00_scope.md section 3 (R4): "A parameter is fixed when the hardware is built and never changes at run time", of the
parameters as the model carries them (log 2). -/
def Obligations.ParametersNeverChange : Prop := ∀ s t : State, step s = .next t → t.params = s.params

/-! ### The invariants of R30 -/

/-- 10_state.md section 8 (R30): every tick keeps every item but the second half of item 10; that no tick is in progress
between two steps is said of the model's own field (log 3). -/
def Obligations.EveryStepKeepsTheGoodState : Prop :=
  ∀ s t : State, GoodState s → step s = .next t → GoodState t

/-- 10_state.md section 8 (R30, item 10, second half): kept while `NOW` does not wrap. -/
def Obligations.LastAcceptStaysBeforeNow : Prop :=
  ∀ s t : State, acceptedBeforeNow s.regs → s.regs.now.toNat + 1 < 2 ^ 64 → step s = .next t →
    acceptedBeforeNow t.regs

/-- R30: its ten items in `S(n)` for every `n`, whatever the parameters, the straps and the inputs; the second half of
item 10 "as long as fewer than 2^64 ticks have run". -/
def Obligations.EveryRunFromResetMeetsR30 : Prop :=
  ∀ (p : Params) (f : Straps) (l : List TickInput) (n : Nat), p.WellFormed →
    ∃ t, runTicks n { State.resetWith p f with inputs := l } = .next t ∧ t.params = p ∧
      RegsInv p t.regs ∧ (n < 2 ^ 64 → acceptedBeforeNow t.regs) ∧
      (t.regs.en = false → ∀ c, (chan c t.regs).armed = false ∧ (chan c t.regs).level = false)

/-! ### The oscillator -/

/-- R82, R83: the countdown of one channel in all its cases, nothing else written, and the order of the two channels
within P1 not mattering. -/
def Obligations.CountdownAndExpiry : Prop :=
  (∀ (c : Channel) (r : Regs),
    ((chan c r).cnt.toNat = 0 → countdown c r = r) ∧
    (2 ≤ (chan c r).cnt.toNat →
      countdown c r = setChan c { chan c r with cnt := BitVec.ofNat 32 ((chan c r).cnt.toNat - 1) } r) ∧
    ((chan c r).cnt.toNat = 1 → enEff c r = true → (chan c r).armed = true → (chan c r).fail = false →
      countdown c r = setChan c
        { chan c r with
          level := !(chan c r).level
          cnt := if (chan c r).level then (chan c r).lowUs else (chan c r).highUs } r) ∧
    ((chan c r).cnt.toNat = 1 → (enEff c r = false ∨ (chan c r).armed = false ∨ (chan c r).fail = true) →
      countdown c r = setChan c { chan c r with cnt := 0 } r)) ∧
  ∀ r : Regs, timerPhase r = countdown .mag (countdown .led r) ∧
    countdown .led (countdown .mag r) = countdown .mag (countdown .led r)

/-- R80, R86, R87: the effective enable; start and stop, each a write of its own channel alone. -/
def Obligations.StartAndStop : Prop :=
  ∀ (c : Channel) (r : Regs),
    (enEff .led r = r.en ∧ enEff .mag r = (r.en && !r.magOvr)) ∧
    ((chan c r).fail = true → start c r = r) ∧
    ((chan c r).fail = false →
      start c r = setChan c { chan c r with level := false, armed := true, cnt := (chan c r).lowUs } r) ∧
    stop c r = setChan c { chan c r with level := false, armed := false } r ∧
    ((chan c r).armed = false → (chan c r).level = false → stop c r = r)

/-- R85: a half-cycle that has `d` ticks left, on a channel that is not stopped or restarted meanwhile, lasts exactly
`d` ticks, whatever the host does; the level then toggles and the count is loaded from the pair in force. A steady
channel has period `HIGH_US + LOW_US`. -/
def Obligations.HalfCyclesAreExact : Prop :=
  (∀ (s : State) (c : Channel), GoodState s → (chan c s.regs).armed = true →
    (∀ k < (chan c s.regs).cnt.toNat, ∀ u, runTicks k s = .next u → touchesChannel c u = false) →
    (∀ k < (chan c s.regs).cnt.toNat, ∃ u, runTicks k s = .next u ∧
      (chan c u.regs).cnt.toNat = (chan c s.regs).cnt.toNat - k ∧
      (chan c u.regs).level = (chan c s.regs).level ∧ (chan c u.regs).armed = true) ∧
    ∃ u v, runTicks ((chan c s.regs).cnt.toNat - 1) s = .next u ∧
      runTicks (chan c s.regs).cnt.toNat s = .next v ∧
      (chan c v.regs).armed = true ∧ (chan c v.regs).level = !(chan c s.regs).level ∧
      (chan c v.regs).cnt = if (chan c s.regs).level then (chan c u.regs).lowUs else (chan c u.regs).highUs) ∧
  (∀ (s : State) (c : Channel), GoodState s → (chan c s.regs).armed = true → (chan c s.regs).level = false →
    (chan c s.regs).cnt = (chan c s.regs).lowUs →
    (∀ k < (chan c s.regs).lowUs.toNat + (chan c s.regs).highUs.toNat, ∀ u, runTicks k s = .next u →
      touchesChannel c u = false ∧ (chan c u.regs).highUs = (chan c s.regs).highUs ∧
      (chan c u.regs).lowUs = (chan c s.regs).lowUs) →
    ∃ v, runTicks ((chan c s.regs).lowUs.toNat + (chan c s.regs).highUs.toNat) s = .next v ∧
      (chan c v.regs).armed = true ∧ (chan c v.regs).level = false ∧ (chan c v.regs).cnt = (chan c s.regs).lowUs)

/-- R84: the count of a halted channel runs out and stays idle, and the level never moves, for as long as the channel
stays halted. -/
def Obligations.StaleCountRunsOutSilently : Prop :=
  ∀ (s : State) (c : Channel) (n : Nat), GoodState s →
    (∀ k ≤ n, ∀ u, runTicks k s = .next u → (chan c u.regs).armed = false) →
    (∀ k < n, ∀ u, runTicks k s = .next u → isResetTick u = false) →
    ∃ t, runTicks n s = .next t ∧ (chan c t.regs).level = false ∧
      (chan c t.regs).cnt.toNat = (chan c s.regs).cnt.toNat - n

/-- SDT §8 as 10_state.md section 8 (R30) renders it: "while enabled=false, no output line transitions", into the tick
that may end the disabled time too. -/
def Obligations.DisabledLinesStayInactive : Prop :=
  ∀ s t : State, GoodState s → s.regs.en = false → step s = .next t → linesInactive s ∧ linesInactive t

/-- 10_state.md section 3 (R17), 60_exceptions.md section 1 (R147): only a reset tick writes `FAIL[c]`, and a failed
channel is halted with its timer idle. -/
def Obligations.FailedChannelStaysHalted : Prop :=
  ∀ (s t : State) (c : Channel), step s = .next t → isResetTick s = false →
    (chan c t.regs).fail = (chan c s.regs).fail ∧
    (GoodState s → (chan c s.regs).fail = true →
      (chan c t.regs).level = false ∧ (chan c t.regs).armed = false ∧ (chan c t.regs).cnt = 0)

/-- 70_reset_and_hazards.md section 4 (R184): no coupling. Two states that differ only in one channel's elements give
the other channel the same next elements. -/
def Obligations.ChannelsAreUncoupled : Prop :=
  ∀ (s t t' : State) (c d : Channel) (x : ChannelRegs), d ≠ c →
    step s = .next t → step { s with regs := setChan d x s.regs } = .next t' →
    chan c t.regs = chan c t'.regs

/-- 70_reset_and_hazards.md section 4 (R186): the transaction of a tick has no influence on where the waveforms are
after it, nor on the enable, mode, button and time registers. -/
def Obligations.HostCannotMoveAnEdge : Prop :=
  ∀ (s t t' : State) (pins : Pins) (w w' : TxnWord) (l : List TickInput),
    step { s with inputs := ⟨pins, w⟩ :: l } = .next t → step { s with inputs := ⟨pins, w'⟩ :: l } = .next t' →
    (∀ c, (chan c t.regs).level = (chan c t'.regs).level ∧ (chan c t.regs).armed = (chan c t'.regs).armed ∧
      (chan c t.regs).cnt = (chan c t'.regs).cnt ∧ (chan c t.regs).fail = (chan c t'.regs).fail) ∧
    t.regs.now = t'.regs.now ∧ t.regs.en = t'.regs.en ∧ t.regs.magOvr = t'.regs.magOvr ∧
    t.regs.mode = t'.regs.mode ∧ t.regs.runSince = t'.regs.runSince ∧ t.regs.btnPrev = t'.regs.btnPrev ∧
    t.regs.lastAccept = t'.regs.lastAccept ∧ t.regs.lastValid = t'.regs.lastValid

/-! ### Outputs -/

/-- R28: the outputs are functions of the registers alone, and every magnet line carries the same value. -/
def Obligations.OutputsAreTheLevels : Prop :=
  ∀ s : State, (outputs s).ledOut = s.regs.led.level ∧
    (outputs s).magOut = List.replicate s.params.nMag s.regs.mag.level ∧ (outputs s).saveReq = s.regs.saveReq

/-- 10_state.md section 7 (R26): `rdata` of a tick, as the output. That the state after the tick records it, and that
`RD` completes in every state and outside a tick sees the registers as they stand, are the model's choice (log 3). -/
def Obligations.ReadDataIsTakenAtTheStartOfTheTick : Prop :=
  (∀ (a : RegName) (s : State), exec (.rd a) s = .next { s with rdata := memRead a (s.latch.getD s.regs) }) ∧
  ∀ s t : State, step s = .next t →
    t.rdata = (outputs s).rdata ∧
    (isResetTick s = true → (outputs s).rdata = 0) ∧
    (∀ a, isResetTick s = false → comingTxn s = .rd a → (outputs s).rdata = memRead a s.regs) ∧
    ((∀ a, comingTxn s ≠ .rd a) → (outputs s).rdata = 0)

/-! ### The button and the controller -/

/-- R90, R93: `BTN_PREV` takes the sample; without an accepted edge nothing else is written. -/
def Obligations.DroppedEdgeWritesOnlyBtnPrev : Prop :=
  ∀ (p : Params) (btn : Bool) (r : Regs),
    (fallingEdge btn r = true ↔ r.btnPrev = true ∧ btn = false) ∧
    (buttonPhase p btn r).btnPrev = btn ∧
    (fallingEdge btn r = false → buttonPhase p btn r = { r with btnPrev := btn }) ∧
    (fallingEdge btn r = true → passesDebounce p r = false → buttonPhase p btn r = { r with btnPrev := btn })

/-- R91, R92: which edges are accepted, and what acceptance writes before the controller acts. -/
def Obligations.AcceptedEdge : Prop :=
  ∀ (p : Params) (btn : Bool) (r : Regs),
    (passesDebounce p r = true ↔
      r.lastValid = false ∨ p.debounceUs ≤ (r.now.toNat + 2 ^ 64 - r.lastAccept.toNat) % 2 ^ 64) ∧
    (fallingEdge btn r = true → passesDebounce p r = true →
      (buttonPhase p btn r).lastAccept = r.now ∧ (buttonPhase p btn r).lastValid = true ∧
      buttonPhase p btn r =
        controllerAction p { r with btnPrev := btn, lastAccept := r.now, lastValid := true })

/-- R95, R96, R97: an accepted edge in the canonical variant toggles `EN`; all it writes. -/
def Obligations.CanonicalEdgeToggles : Prop :=
  ∀ (p : Params) (btn : Bool) (r : Regs), p.legacyModes = false → acceptsEdge p btn r = true →
    (r.en = true → buttonPhase p btn r =
      { r with
        btnPrev := btn, lastAccept := r.now, lastValid := true, en := false
        led := { r.led with level := false, armed := false }
        mag := { r.mag with level := false, armed := false } }) ∧
    (r.en = false → buttonPhase p btn r =
      { r with
        btnPrev := btn, lastAccept := r.now, lastValid := true, en := true
        led := if r.led.fail then r.led
          else { r.led with level := false, armed := true, cnt := r.led.lowUs }
        mag := if r.mag.fail then r.mag
          else { r.mag with level := false, armed := true, cnt := r.mag.lowUs } })

/-- R95, R98: in the canonical variant an accepted edge selects the disable or the enable action, and nothing but an
accepted edge and reset changes `EN`. -/
def Obligations.EnableFlagHasOneWriter : Prop :=
  (∀ (p : Params) (btn : Bool) (r : Regs), p.legacyModes = false → acceptsEdge p btn r = true →
    buttonPhase p btn r =
      if r.en then disable { r with btnPrev := btn, lastAccept := r.now, lastValid := true }
      else enable { r with btnPrev := btn, lastAccept := r.now, lastValid := true }) ∧
  ∀ s t : State, s.params.legacyModes = false → step s = .next t → isResetTick s = false →
    t.regs.en = (s.regs.en ^^ edgeAccepted s)

/-- 42_button_enable.md section 4 (R99 (b)): two accepted edges with no reset tick between them are at least
`DEBOUNCE_US` ticks apart. -/
def Obligations.AcceptedEdgesAreAWindowApart : Prop :=
  ∀ (s u : State) (n : Nat), edgeAccepted s = true → n + 1 < 2 ^ 64 →
    (∀ k ≤ n, ∀ v, runTicks k s = .next v → isResetTick v = false) →
    runTicks (n + 1) s = .next u → edgeAccepted u = true → s.params.debounceUs ≤ n + 1

/-! ### The mode sequencer -/

/-- R124, R125: the first two transitions of R123, all they write. -/
def Obligations.ModeTransitionsOutOfRunAndMagnetOff : Prop :=
  ∀ (p : Params) (btn : Bool) (r : Regs), p.legacyModes = true → acceptsEdge p btn r = true →
    (r.mode = .run → buttonPhase p btn r =
      { r with
        btnPrev := btn, lastAccept := r.now, lastValid := true, mode := .magnetOff, magOvr := true
        mag := { r.mag with level := false, armed := false } }) ∧
    (r.mode = .magnetOff → buttonPhase p btn r =
      { r with
        btnPrev := btn, lastAccept := r.now, lastValid := true, mode := .allOff, en := false
        led := { r.led with level := false, armed := false }
        mag := { r.mag with level := false, armed := false } })

/-- R126: the entry to RUN, all it writes. -/
def Obligations.EntryToRun : Prop :=
  ∀ (p : Params) (btn : Bool) (r : Regs), p.legacyModes = true → acceptsEdge p btn r = true → r.mode = .allOff →
    let pair := calcPair p.magBaseFreq.toNat r.mag.duty.toNat
    let mag := { r.mag with freq := p.magBaseFreq, highUs := pair.high, lowUs := pair.low }
    buttonPhase p btn r =
      { r with
        btnPrev := btn, lastAccept := r.now, lastValid := true
        mode := .run, en := true, magOvr := false, runSince := r.now
        stgMagFreq := zext32 p.magBaseFreq
        led := if r.led.fail then r.led
          else { r.led with level := false, armed := true, cnt := r.led.lowUs }
        mag := if r.mag.fail then mag
          else { mag with level := false, armed := true, cnt := pair.low } }

/-- R127: the idle timeout, when it fires and all it writes. -/
def Obligations.IdleTimeoutShutsOff : Prop :=
  ∀ (p : Params) (r : Regs),
    ((p.legacyModes = true ∧ r.mode = .run ∧
        p.idleTimeoutUs ≤ (r.now.toNat + 2 ^ 64 - r.runSince.toNat) % 2 ^ 64) →
      idlePhase p r =
        { r with
          mode := .allOff, en := false, magOvr := true
          led := { r.led with level := false, armed := false }
          mag := { r.mag with level := false, armed := false } }) ∧
    (¬ (p.legacyModes = true ∧ r.mode = .run ∧
        p.idleTimeoutUs ≤ (r.now.toNat + 2 ^ 64 - r.runSince.toNat) % 2 ^ 64) →
      idlePhase p r = r)

/-- 44_mode_sequencer.md section 3 (R129): after every tick of the legacy variant RUN has lasted at most the idle
timeout, and the magnet channel is armed only in RUN. -/
def Obligations.RunNeverOutlastsTheIdleTimeout : Prop :=
  ∀ s t : State, s.params.WellFormed → s.params.legacyModes = true → step s = .next t →
    (t.regs.mode = .run → elapsedSince t.regs.runSince t.regs ≤ s.params.idleTimeoutUs) ∧
    (GoodState s → t.regs.mag.armed = true →
      t.regs.mode = .run ∧ elapsedSince t.regs.runSince t.regs ≤ s.params.idleTimeoutUs)

/-- R132: without the mode sequencer its registers are 0 after reset, every tick keeps them so, the idle phase does
nothing, an accepted edge never advances a mode, and `STATUS[11:10]` and `STATUS[8]` read 0. -/
def Obligations.CanonicalVariantHasNoModes : Prop :=
  ∀ p : Params, p.legacyModes = false →
    (∀ f, (resetRegs p f).mode = .off ∧ (resetRegs p f).magOvr = false ∧ (resetRegs p f).runSince = 0) ∧
    (∀ r, idlePhase p r = r ∧ controllerAction p r = if r.en then disable r else enable r) ∧
    (∀ s t : State, s.params = p → step s = .next t →
      s.regs.mode = .off → s.regs.magOvr = false → s.regs.runSince = 0 →
      t.regs.mode = .off ∧ t.regs.magOvr = false ∧ t.regs.runSince = 0) ∧
    (∀ r : Regs, r.mode = .off → r.magOvr = false →
      (memRead .status r).extractLsb' 10 2 = 0 ∧ (memRead .status r).getLsbD 8 = false)

/-! ### Host transactions -/

/-- R105, R114, R116, and `WR.IGN` (43_host_ops.md section 5): the transactions with no effect complete in every state
and write nothing; `rdata` is 0; in a tick that carries one all other phases run. -/
def Obligations.TransactionsWithoutEffect : Prop :=
  (∀ (s : State) (i : Instr), isResetTick s = false → comingTxn s = i →
    (i = .nop ∨ i = .rsvd3 ∨ (∃ v, i = .cmdRsvd v) ∨ ∃ a v, i = .wrIgn a v) →
    step s = .next (afterHost { beforeHost (takeInput s) with rdata := 0 })) ∧
  ∀ s : State,
    exec .nop s = .next { s with rdata := 0 } ∧
    exec .rsvd3 s = .next { s with rdata := 0 } ∧
    (∀ v, exec (.cmdRsvd v) s = .next { s with rdata := 0 }) ∧
    (∀ a v, exec (.wrIgn a v) s = .next { s with rdata := 0 })

/-- R106, R41: in the host phase of any tick `RD a` completes, writes no register, and returns the register as it stood at
the start of the tick; the read value of every address, by its number; the names the numbers stand for. -/
def Obligations.ReadReturnsTheRegister : Prop :=
  (∀ (a : RegName) (s : State),
    exec (.rd a) (beforeHost s) = .next { beforeHost s with rdata := memRead a s.regs }) ∧
  (∀ r : Regs,
    memRead (RegName.ofAddr 0) r = 0 ∧ memRead (RegName.ofAddr 1) r = statusWord r ∧
    memRead (RegName.ofAddr 2) r = r.stgLedFreq ∧ memRead (RegName.ofAddr 3) r = r.stgLedDuty ∧
    memRead (RegName.ofAddr 4) r = r.stgMagFreq ∧ memRead (RegName.ofAddr 5) r = r.stgMagDuty ∧
    (memRead (RegName.ofAddr 6) r).toNat = r.led.freq.toNat ∧ (memRead (RegName.ofAddr 7) r).toNat = r.led.duty.toNat ∧
    (memRead (RegName.ofAddr 8) r).toNat = r.mag.freq.toNat ∧ (memRead (RegName.ofAddr 9) r).toNat = r.mag.duty.toNat ∧
    memRead (RegName.ofAddr 10) r = r.led.highUs ∧ memRead (RegName.ofAddr 11) r = r.led.lowUs ∧
    memRead (RegName.ofAddr 12) r = r.mag.highUs ∧ memRead (RegName.ofAddr 13) r = r.mag.lowUs ∧
    memRead (RegName.ofAddr 14) r = 0 ∧ memRead (RegName.ofAddr 15) r = 0) ∧
  (RegName.ofAddr 0 = .cmd ∧ RegName.ofAddr 1 = .status ∧ RegName.ofAddr 2 = .stgLedFreq ∧
    RegName.ofAddr 3 = .stgLedDuty ∧ RegName.ofAddr 4 = .stgMagFreq ∧ RegName.ofAddr 5 = .stgMagDuty ∧
    RegName.ofAddr 6 = .ledFreq ∧ RegName.ofAddr 7 = .ledDuty ∧ RegName.ofAddr 8 = .magFreq ∧
    RegName.ofAddr 9 = .magDuty ∧ RegName.ofAddr 10 = .ledHighUs ∧ RegName.ofAddr 11 = .ledLowUs ∧
    RegName.ofAddr 12 = .magHighUs ∧ RegName.ofAddr 13 = .magLowUs ∧ RegName.ofAddr 14 = .rsvd14 ∧
    RegName.ofAddr 15 = .rsvd15)

/-- R34, with the codes of `MODE` from R20: every bit of `STATUS`; a read of it returns them all from the state at the start of the tick and writes no
register. -/
def Obligations.StatusWordBits : Prop :=
  (∀ s : State, exec (.rd .status) (beforeHost s) = .next { beforeHost s with rdata := statusWord s.regs }) ∧
  (Mode.off.code = 0 ∧ Mode.run.code = 1 ∧ Mode.magnetOff.code = 2 ∧ Mode.allOff.code = 3) ∧
  ∀ r : Regs, let w := statusWord r
    w.getLsbD 0 = r.en ∧ w.getLsbD 1 = r.led.level ∧ w.getLsbD 2 = r.mag.level ∧
    w.getLsbD 3 = r.led.armed ∧ w.getLsbD 4 = r.mag.armed ∧ w.getLsbD 5 = r.led.fail ∧
    w.getLsbD 6 = r.mag.fail ∧ w.getLsbD 7 = r.reject ∧ w.getLsbD 8 = r.magOvr ∧ w.getLsbD 9 = r.saveReq ∧
    w.extractLsb' 10 2 = r.mode.code ∧ ∀ k, 12 ≤ k → w.getLsbD k = false

/-- 43_host_ops.md section 1 (R107): the five fields of `getSettings()`. -/
def Obligations.GetSettingsReadsTheLiveCodes : Prop :=
  ∀ r : Regs,
    (getSettings r).ledFreq.toNat = r.led.freq.toNat ∧ (getSettings r).ledDuty.toNat = r.led.duty.toNat ∧
    (getSettings r).magFreq.toNat = r.mag.freq.toNat ∧ (getSettings r).magDuty.toNat = r.mag.duty.toNat ∧
    (getSettings r).enabled = r.en

/-- R108, R109, R110, R111: each staging write completes in every state, stores all 32 bits of any value, and writes
nothing else. -/
def Obligations.StagingWrites : Prop :=
  ∀ (v : U32) (s : State),
    exec (.wrStgLedFreq v) s = .next { s with regs := { s.regs with stgLedFreq := v }, rdata := 0 } ∧
    exec (.wrStgLedDuty v) s = .next { s with regs := { s.regs with stgLedDuty := v }, rdata := 0 } ∧
    exec (.wrStgMagFreq v) s = .next { s with regs := { s.regs with stgMagFreq := v }, rdata := 0 } ∧
    exec (.wrStgMagDuty v) s = .next { s with regs := { s.regs with stgMagDuty := v }, rdata := 0 }

/-- R112, R117: the install step in both cases, every register it writes, and the arguments the two commands give it. -/
def Obligations.InstallStep : Prop :=
  (∀ (lf ld mf md : Nat) (r : Regs),
    ((valid lf ld = true ∧ valid mf md = true) → install lf ld mf md r =
      { r with
        led := { r.led with
          freq := BitVec.ofNat 16 lf, duty := BitVec.ofNat 16 ld
          highUs := BitVec.ofNat 32 (highTicks lf ld), lowUs := BitVec.ofNat 32 (lowTicks lf ld) }
        mag := { r.mag with
          freq := BitVec.ofNat 16 mf, duty := BitVec.ofNat 16 md
          highUs := BitVec.ofNat 32 (highTicks mf md), lowUs := BitVec.ofNat 32 (lowTicks mf md) }
        stgLedFreq := BitVec.ofNat 32 lf, stgLedDuty := BitVec.ofNat 32 ld
        stgMagFreq := BitVec.ofNat 32 mf, stgMagDuty := BitVec.ofNat 32 md
        reject := false, saveReq := true }) ∧
    (¬ (valid lf ld = true ∧ valid mf md = true) → install lf ld mf md r =
      { r with
        stgLedFreq := r.led.freq.setWidth 32, stgLedDuty := r.led.duty.setWidth 32
        stgMagFreq := r.mag.freq.setWidth 32, stgMagDuty := r.mag.duty.setWidth 32
        reject := true })) ∧
  ∀ s : State,
    exec .cmdApply s = .next
      { s with
        regs := install s.regs.stgLedFreq.toNat s.regs.stgLedDuty.toNat s.regs.stgMagFreq.toNat
          s.regs.stgMagDuty.toNat s.regs
        rdata := 0 } ∧
    exec .cmdDefaults s = .next
      { s with
        regs := install s.params.defLedFreq.toNat s.params.defLedDuty.toNat s.params.defMagFreq.toNat
          s.params.defMagDuty.toNat s.regs
        rdata := 0 }

/-- 43_host_ops.md section 4 (R112), where both pairs are valid: `CMD.APPLY` completes; the live codes are the staged numbers, the
IntervalPairs those of R72, `REJECT` 0, `SAVE_REQ` 1, the staging registers as they were. -/
def Obligations.ApplyInstallsValidSettings : Prop :=
  ∀ s : State,
    (1 ≤ s.regs.stgLedFreq.toNat ∧ s.regs.stgLedFreq.toNat ≤ 65535) →
    (1 ≤ s.regs.stgLedDuty.toNat ∧ s.regs.stgLedDuty.toNat ≤ 999) →
    (1 ≤ s.regs.stgMagFreq.toNat ∧ s.regs.stgMagFreq.toNat ≤ 65535) →
    (1 ≤ s.regs.stgMagDuty.toNat ∧ s.regs.stgMagDuty.toNat ≤ 999) →
    ∃ t, exec .cmdApply s = .next t ∧
      t.regs.led.freq.toNat = s.regs.stgLedFreq.toNat ∧ t.regs.led.duty.toNat = s.regs.stgLedDuty.toNat ∧
      t.regs.mag.freq.toNat = s.regs.stgMagFreq.toNat ∧ t.regs.mag.duty.toNat = s.regs.stgMagDuty.toNat ∧
      (∀ c, (chan c t.regs).highUs.toNat = highTicks (chan c t.regs).freq.toNat (chan c t.regs).duty.toNat ∧
        (chan c t.regs).lowUs.toNat = lowTicks (chan c t.regs).freq.toNat (chan c t.regs).duty.toNat) ∧
      t.regs.reject = false ∧ t.regs.saveReq = true ∧
      t.regs.stgLedFreq = s.regs.stgLedFreq ∧ t.regs.stgLedDuty = s.regs.stgLedDuty ∧
      t.regs.stgMagFreq = s.regs.stgMagFreq ∧ t.regs.stgMagDuty = s.regs.stgMagDuty ∧ t.rdata = 0

/-- R146: where a pair is not valid `CMD.APPLY` writes `REJECT` and the staging registers and nothing else; no part of
it is installed. `CMD.DEFAULTS` cannot be rejected, and only an accepted install or reset clears `REJECT`. -/
def Obligations.ApplyRejectsAllOrNothing : Prop :=
  (∀ s t : State, s.params.WellFormed → exec .cmdDefaults s = .next t → t.regs.reject = false) ∧
  (∀ s t : State, step s = .next t → s.regs.reject = true → t.regs.reject = false →
    isResetTick s = true ∨ installAccepted s = true) ∧
  ∀ s : State,
    ¬ ((1 ≤ s.regs.stgLedFreq.toNat ∧ s.regs.stgLedFreq.toNat ≤ 65535) ∧
      (1 ≤ s.regs.stgLedDuty.toNat ∧ s.regs.stgLedDuty.toNat ≤ 999) ∧
      (1 ≤ s.regs.stgMagFreq.toNat ∧ s.regs.stgMagFreq.toNat ≤ 65535) ∧
      (1 ≤ s.regs.stgMagDuty.toNat ∧ s.regs.stgMagDuty.toNat ≤ 999)) →
    exec .cmdApply s = .next
      { s with
        regs := { s.regs with
          reject := true
          stgLedFreq := s.regs.led.freq.setWidth 32
          stgLedDuty := s.regs.led.duty.setWidth 32
          stgMagFreq := s.regs.mag.freq.setWidth 32
          stgMagDuty := s.regs.mag.duty.setWidth 32 }
        rdata := 0 }

/-- R113: `CMD.DEFAULTS` completes and is always accepted; whatever was staged is replaced; it is no reset. -/
def Obligations.DefaultsAreAlwaysInstalled : Prop :=
  ∀ s : State, s.params.WellFormed →
    ∃ t, exec .cmdDefaults s = .next t ∧
      t.regs.led.freq = s.params.defLedFreq ∧ t.regs.led.duty = s.params.defLedDuty ∧
      t.regs.mag.freq = s.params.defMagFreq ∧ t.regs.mag.duty = s.params.defMagDuty ∧
      (∀ c, (chan c t.regs).highUs.toNat = highTicks (chan c t.regs).freq.toNat (chan c t.regs).duty.toNat ∧
        (chan c t.regs).lowUs.toNat = lowTicks (chan c t.regs).freq.toNat (chan c t.regs).duty.toNat) ∧
      t.regs.reject = false ∧ t.regs.saveReq = true ∧
      t.regs.stgLedFreq = s.params.defLedFreq.setWidth 32 ∧ t.regs.stgLedDuty = s.params.defLedDuty.setWidth 32 ∧
      t.regs.stgMagFreq = s.params.defMagFreq.setWidth 32 ∧ t.regs.stgMagDuty = s.params.defMagDuty.setWidth 32 ∧
      t.regs.en = s.regs.en ∧ t.regs.mode = s.regs.mode ∧ t.regs.btnPrev = s.regs.btnPrev ∧
      t.regs.lastAccept = s.regs.lastAccept ∧ t.regs.lastValid = s.regs.lastValid ∧ t.regs.now = s.regs.now ∧
      t.rdata = 0

/-- 43_host_ops.md section 3 (R117), 20_memory.md section 6 (R49): the frame of the two commands. Beside the codes,
the intervals, the staging registers, `REJECT` and `SAVE_REQ` they write nothing; `CNT`, `LEVEL`, `ARMED` and `EN` stay. -/
def Obligations.CommandsLeaveTheWaveformAlone : Prop :=
  ∀ (s t : State) (i : Instr), (i = .cmdApply ∨ i = .cmdDefaults) → exec i s = .next t →
    (∀ c, (chan c t.regs).cnt = (chan c s.regs).cnt ∧ (chan c t.regs).level = (chan c s.regs).level ∧
      (chan c t.regs).armed = (chan c s.regs).armed ∧ (chan c t.regs).fail = (chan c s.regs).fail) ∧
    t.regs.now = s.regs.now ∧ t.regs.en = s.regs.en ∧ t.regs.magOvr = s.regs.magOvr ∧
    t.regs.mode = s.regs.mode ∧ t.regs.runSince = s.regs.runSince ∧ t.regs.btnPrev = s.regs.btnPrev ∧
    t.regs.lastAccept = s.regs.lastAccept ∧ t.regs.lastValid = s.regs.lastValid ∧
    t.params = s.params ∧ t.latch = s.latch ∧ t.pins = s.pins ∧ t.inputs = s.inputs

/-- R42: a write transaction of any value to any address is `MemWrite` of that address: a staging register takes the
value, `CMD` runs the command the value selects, every other address does nothing. -/
def Obligations.WriteTransactionIsMemWrite : Prop :=
  (∀ (a : RegName) (v : U32) (s : State),
    exec (decode (txnWord 2 a.addr v)) s =
      .next { s with regs := memWrite s.params a v s.regs, rdata := 0 }) ∧
  ∀ (p : Params) (v : U32) (r : Regs),
    memWrite p .stgLedFreq v r = { r with stgLedFreq := v } ∧ memWrite p .stgLedDuty v r = { r with stgLedDuty := v } ∧
    memWrite p .stgMagFreq v r = { r with stgMagFreq := v } ∧ memWrite p .stgMagDuty v r = { r with stgMagDuty := v } ∧
    memWrite p .cmd 1 r = applyStaged r ∧ memWrite p .cmd 2 r = applyDefaults p r ∧
    (v ≠ 1 → v ≠ 2 → memWrite p .cmd v r = r) ∧
    (∀ a, isIgnoredOnWrite a = true → memWrite p a v r = r)

/-- R27: `SAVE_REQ`, and with it the output `save_req`, is 1 after a tick exactly when the tick carried an accepted
install. -/
def Obligations.SaveReqMarksAcceptedInstalls : Prop :=
  ∀ s t : State, step s = .next t →
    t.regs.saveReq = (!isResetTick s && installAccepted s) ∧ (outputs t).saveReq = t.regs.saveReq

/-- R25: `REJECT` tells whether the most recent install command was rejected, and is 0 from reset on. -/
def Obligations.RejectTellsTheLastCommand : Prop :=
  ∀ s t : State, step s = .next t →
    (isResetTick s = true → t.regs.reject = false) ∧
    (isResetTick s = false → isInstall s = true → t.regs.reject = !installAccepted s) ∧
    (isResetTick s = false → isInstall s = false → t.regs.reject = s.regs.reject)

/-- 40_calculator.md section 4 (R76), 20_memory.md section 2 (R45): a second `CMD.APPLY` after any first one changes no
code and no interval; it ends accepted and raises `SAVE_REQ`. -/
def Obligations.ApplyingTwiceChangesNothing : Prop :=
  ∀ s t u : State, GoodState s → exec .cmdApply s = .next t → exec .cmdApply t = .next u →
    u.regs = { t.regs with reject := false, saveReq := true }

/-- 43_host_ops.md section 5 (R115), 10_state.md section 9 (R31): nothing but an accepted install, an entry to RUN and
reset changes a code or an interval. -/
def Obligations.CodesChangeOnlyByInstallOrRunEntry : Prop :=
  ∀ (s t : State) (c : Channel), step s = .next t → isResetTick s = false → installAccepted s = false →
    ¬ (s.params.legacyModes = true ∧ edgeAccepted s = true ∧ s.regs.mode = .allOff) →
    (chan c t.regs).freq = (chan c s.regs).freq ∧ (chan c t.regs).duty = (chan c s.regs).duty ∧
    (chan c t.regs).highUs = (chan c s.regs).highUs ∧ (chan c t.regs).lowUs = (chan c s.regs).lowUs

/-! ### Coincidences in one tick -/

/-- 20_memory.md section 6 (R49): whatever the transaction of the tick, an expiry in it loads the duration of the pair
as it stood at the start of the tick, and a half-cycle in progress counts on. -/
def Obligations.NewPairWaitsForTheNextExpiry : Prop :=
  ∀ (s t : State) (c : Channel), GoodState s → touchesChannel c s = false → step s = .next t →
    (2 ≤ (chan c s.regs).cnt.toNat →
      (chan c t.regs).cnt.toNat = (chan c s.regs).cnt.toNat - 1 ∧ (chan c t.regs).level = (chan c s.regs).level) ∧
    ((chan c s.regs).cnt = 1 → (chan c s.regs).armed = true →
      (chan c t.regs).level = (!(chan c s.regs).level) ∧
      (chan c t.regs).cnt = if (chan c s.regs).level then (chan c s.regs).lowUs else (chan c s.regs).highUs)

/-- 60_exceptions.md section 3 (R153), canonical rows with an accepted edge: a disable wins over an expiry of the same
tick, whose reload stays as the stale count; an enable loads the old `LOW_US`, over a stale expiry and before an
install of the same tick. -/
def Obligations.CoincidencesWithTheButton : Prop :=
  ∀ (s t : State) (c : Channel), GoodState s → s.params.legacyModes = false → isResetTick s = false →
    edgeAccepted s = true → step s = .next t →
    (s.regs.en = true → (chan c s.regs).cnt = 1 → (chan c s.regs).armed = true →
      t.regs.en = false ∧ (chan c t.regs).level = false ∧ (chan c t.regs).armed = false ∧
      (chan c t.regs).cnt = if (chan c s.regs).level then (chan c s.regs).lowUs else (chan c s.regs).highUs) ∧
    (s.regs.en = false → (chan c s.regs).fail = false →
      t.regs.en = true ∧ (chan c t.regs).level = false ∧ (chan c t.regs).armed = true ∧
      (chan c t.regs).cnt = (chan c s.regs).lowUs)

/-- 60_exceptions.md section 3 (R153), legacy rows: a write to `STG_MAG_FREQ` in the tick of an entry to RUN survives
while `FREQ[MAG]` takes the base value; a `CMD.APPLY` in that tick runs on the staging registers with the base frequency
in them, whatever frequency was staged (R181 (b)), and both channels start with the `LOW_US` of the entry, accepted or
not; an edge out of RUN comes before the idle timeout. -/
def Obligations.CoincidencesInTheLegacyVariant : Prop :=
  ∀ s t : State, GoodState s → s.params.legacyModes = true → isResetTick s = false →
    edgeAccepted s = true → step s = .next t →
    (∀ v, s.regs.mode = .allOff → comingTxn s = .wrStgMagFreq v →
      t.regs.stgMagFreq = v ∧ t.regs.mag.freq = s.params.magBaseFreq ∧ t.regs.mode = .run) ∧
    (s.regs.mode = .allOff → comingTxn s = .cmdApply →
      let base := s.params.magBaseFreq
      let entry := calcPair base.toNat s.regs.mag.duty.toNat
      (t.regs.mode = .run ∧ t.regs.en = true ∧ t.regs.magOvr = false ∧ t.regs.runSince = s.regs.now) ∧
      (t.regs.mag.freq = base ∧ t.regs.stgMagFreq.toNat = base.toNat) ∧
      (s.regs.led.fail = false →
        t.regs.led.level = false ∧ t.regs.led.armed = true ∧ t.regs.led.cnt = s.regs.led.lowUs) ∧
      (s.regs.mag.fail = false →
        t.regs.mag.level = false ∧ t.regs.mag.armed = true ∧ t.regs.mag.cnt = entry.low) ∧
      ((valid s.regs.stgLedFreq.toNat s.regs.stgLedDuty.toNat = true ∧
          valid base.toNat s.regs.stgMagDuty.toNat = true) →
        t.regs.reject = false ∧ t.regs.saveReq = true ∧
        t.regs.led.freq.toNat = s.regs.stgLedFreq.toNat ∧ t.regs.led.duty.toNat = s.regs.stgLedDuty.toNat ∧
        t.regs.mag.duty.toNat = s.regs.stgMagDuty.toNat ∧
        (⟨t.regs.led.highUs, t.regs.led.lowUs⟩ : IntervalPair) =
          calcPair s.regs.stgLedFreq.toNat s.regs.stgLedDuty.toNat ∧
        (⟨t.regs.mag.highUs, t.regs.mag.lowUs⟩ : IntervalPair) = calcPair base.toNat s.regs.stgMagDuty.toNat) ∧
      (¬ (valid s.regs.stgLedFreq.toNat s.regs.stgLedDuty.toNat = true ∧
          valid base.toNat s.regs.stgMagDuty.toNat = true) →
        t.regs.reject = true ∧ t.regs.saveReq = false ∧
        t.regs.led.freq = s.regs.led.freq ∧ t.regs.led.duty = s.regs.led.duty ∧
        t.regs.mag.duty = s.regs.mag.duty ∧
        t.regs.led.highUs = s.regs.led.highUs ∧ t.regs.led.lowUs = s.regs.led.lowUs ∧
        (⟨t.regs.mag.highUs, t.regs.mag.lowUs⟩ : IntervalPair) = entry)) ∧
    (s.regs.mode = .run → t.regs.mode = .magnetOff ∧ t.regs.en = true ∧ t.regs.magOvr = true)

/-! ### The calculator -/

/-- R70. -/
def Obligations.ValidCodes : Prop :=
  (∀ f d : Nat, valid f d = true ↔ (1 ≤ f ∧ f ≤ 65535) ∧ (1 ≤ d ∧ d ≤ 999)) ∧
  valid 0 500 = false ∧ valid 1 1 = true ∧ valid 65535 999 = true ∧ valid 65536 500 = false ∧
  valid 805 0 = false ∧ valid 805 1000 = false ∧ valid 805 999 = true ∧ valid 805 500 = true

/-- R77: the rounding law, and that the two roundings of the calculator follow it. -/
def Obligations.RoundingIsHalfUp : Prop :=
  (∀ a b : Nat, 0 < b → (roundHalfUp a b : Int) = ⌊(a : Rat) / (b : Rat) + 1 / 2⌋) ∧
  (∀ f : Nat, 1 ≤ f → period f = roundHalfUp 10000000 f) ∧
  (∀ p d : Nat, highBeforeClamp p d = roundHalfUp (p * d) 1000)

/-- R71: the period, its range, and that it never increases with the code. -/
def Obligations.PeriodOfAFrequencyCode : Prop :=
  (∀ f : Nat, 1 ≤ f → f ≤ 65535 →
    period f = (20000000 + f) / (2 * f) ∧ 153 ≤ period f ∧ period f ≤ 10000000 ∧ 20000000 + f < 2 ^ 25) ∧
  (∀ f g : Nat, 1 ≤ f → f ≤ g → g ≤ 65535 → period g ≤ period f) ∧
  period 65535 = 153 ∧ period 1 = 10000000 ∧ period 256 = 39063 ∧ period 805 = 12422

/-- R72: the pair as the 32-bit registers hold it, its width, when the clamp acts, and that it does not act in the
safe band. -/
def Obligations.IntervalPairOfTheCodes : Prop :=
  ∀ f d : Nat, valid f d = true →
    let p := period f
    let high0 := (p * d + 500) / 1000
    (calcPair f d).high.toNat = min (max high0 1) (p - 1) ∧
    (calcPair f d).low.toNat = p - (calcPair f d).high.toNat ∧
    p * d < 2 ^ 34 ∧ (calcPair f d).high.toNat ≤ 9999999 ∧ (calcPair f d).low.toNat ≤ 9999999 ∧
    (high0 = 0 ↔ p * d < 500) ∧ (high0 = p ↔ p * (1000 - d) ≤ 500) ∧
    (500 ≤ f → f ≤ 1500 → (calcPair f d).high.toNat = high0)

/-- R74: for every valid pair of codes, both durations are positive, their sum is the period exactly, and the duty
cycle is met within one microsecond (within half of one when the clamp does not act). -/
def Obligations.IntervalPairProperties : Prop :=
  ∀ f d : Nat, valid f d = true →
    let p := period f
    let high := (calcPair f d).high.toNat
    let low := (calcPair f d).low.toNat
    (1 ≤ high ∧ 1 ≤ low) ∧ high + low = p ∧
    (1000 * high ≤ p * d + 1000 ∧ p * d ≤ 1000 * high + 1000) ∧
    (high = (p * d + 500) / 1000 → 1000 * high ≤ p * d + 500 ∧ p * d ≤ 1000 * high + 500) ∧
    (153 ≤ p ∧ p ≤ 10000000) ∧ high ≤ p - 1 ∧ low ≤ p - 1

/-! ### Encoding -/

/-- 30_encoding.md sections 1 and 3 (R55, R58): decoding the word of a well-formed transaction gives it back, with
every operand. -/
def Obligations.DecodeOfEncode : Prop := ∀ i : Instr, i.wellFormed = true → decode (encode i) = i

/-- R58: the decoder takes the first row of the table that fits, every word fits one, what it gives is well-formed,
and its operands are the word's fields: a write's word is the word of what it decodes to. -/
def Obligations.DecodeFollowsTheOpcodeTable : Prop :=
  ∀ t : TxnWord,
    tableMnemonic t = some (decode t).mnemonic ∧ (decode t).wellFormed = true ∧
    (opField t = 2 → encode (decode t) = t) ∧
    (opField t = 1 → ∃ a : RegName, decode t = .rd a ∧ a.addr = addrField t)

/-- R56: the fields each operation uses, and that the bits it ignores do not change what it is. -/
def Obligations.IgnoredBitsDoNotMatter : Prop :=
  ∀ (a : Addr) (v : U32),
    decode (txnWord 0 a v) = .nop ∧ decode (txnWord 3 a v) = .rsvd3 ∧
    decode (txnWord 1 a v) = .rd (RegName.ofAddr a) ∧ (RegName.ofAddr a).addr = a ∧
    (∀ s : State, isResetTick s = false → (nextInput s).host = txnWord 1 a v →
      (outputs s).rdata = memRead (RegName.ofAddr a) s.regs) ∧
    ∀ s : State, exec (decode (txnWord 2 a v)) s =
      .next { s with regs := memWrite s.params (RegName.ofAddr a) v s.regs, rdata := 0 }

/-- R65: the words of the examples, written out from that rule. -/
def Obligations.WordsOfR65 : Prop :=
  decode 0x0000000000 = .nop ∧ decode 0x1100000000 = .rd .status ∧ decode 0x1A00000000 = .rd .ledHighUs ∧
  decode 0x2200000325 = .wrStgLedFreq 805 ∧ decode 0x2300000384 = .wrStgLedDuty 900 ∧
  decode 0x240000031E = .wrStgMagFreq 798 ∧ decode 0x25000001F4 = .wrStgMagDuty 500 ∧
  decode 0x2000000001 = .cmdApply ∧ decode 0x2000000002 = .cmdDefaults ∧ decode 0x3000000000 = .rsvd3

/-! ### Errors -/

/-- R145: the codes of the four error kinds, what raises each of them, and what raising it writes. -/
def Obligations.ErrorsAreStatusBits : Prop :=
  (∀ s : State,
    acceptable s.regs.stgLedFreq.toNat s.regs.stgLedDuty.toNat s.regs.stgMagFreq.toNat s.regs.stgMagDuty.toNat = false →
    exec .cmdApply s = .next { s with regs := syncStaging (raise .invalidParameter s.regs), rdata := 0 }) ∧
  (∀ (p : Params) (f : Straps), (resetRegs p f).led.fail = f.led ∧ (resetRegs p f).mag.fail = f.mag) ∧
  (∀ (p : Params) (btn : Bool) (r : Regs), fallingEdge btn r = true → passesDebounce p r = false →
    buttonPhase p btn r = raise .debounceReject { r with btnPrev := btn }) ∧
  ErrorKind.invalidParameter.code = 1 ∧ (∀ c, (ErrorKind.hardwareInitFailure c).code = 2) ∧
  ErrorKind.transientLinkLoss.code = 3 ∧ ErrorKind.debounceReject.code = 4 ∧
  ∀ r : Regs,
    raise .invalidParameter r = { r with reject := true } ∧
    (∀ c, raise (.hardwareInitFailure c) r = setChan c { chan c r with fail := true } r) ∧
    raise .transientLinkLoss r = r ∧ raise .debounceReject r = r
end

