-- ==== Sys2Proof/Laws/State.lean ====
section
/-! SUPPORT. The small lemmas of the state: one per field per update, so that no proof unfolds a record update. For a
named channel the normal form is the field (`r.led`, `r.mag`); for a channel variable it is `chan c r`. -/

namespace Sys2Proof.Machine

/-! ### Channel access -/

@[simp] theorem chan_led (r : Regs) : chan .led r = r.led := rfl
@[simp] theorem chan_mag (r : Regs) : chan .mag r = r.mag := rfl
@[simp] theorem setChan_led (x : ChannelRegs) (r : Regs) : setChan .led x r = { r with led := x } := rfl
@[simp] theorem setChan_mag (x : ChannelRegs) (r : Regs) : setChan .mag x r = { r with mag := x } := rfl

@[simp] theorem chan_setChan_same (c : Channel) (x : ChannelRegs) (r : Regs) : chan c (setChan c x r) = x := by
  cases c <;> rfl

theorem chan_setChan_other (c d : Channel) (x : ChannelRegs) (r : Regs) (h : d ≠ c) :
    chan d (setChan c x r) = chan d r := by
  cases c <;> cases d <;> first | rfl | exact absurd rfl h

theorem regs_eq_setChan (c : Channel) (r : Regs) : setChan c (chan c r) r = r := by
  cases c <;> rfl

/-! ### `setChan` leaves every other element alone -/

@[simp] theorem setChan_now (c : Channel) (x : ChannelRegs) (r : Regs) : (setChan c x r).now = r.now := by
  cases c <;> rfl

@[simp] theorem setChan_en (c : Channel) (x : ChannelRegs) (r : Regs) : (setChan c x r).en = r.en := by
  cases c <;> rfl

@[simp] theorem setChan_magOvr (c : Channel) (x : ChannelRegs) (r : Regs) : (setChan c x r).magOvr = r.magOvr := by
  cases c <;> rfl

@[simp] theorem setChan_mode (c : Channel) (x : ChannelRegs) (r : Regs) : (setChan c x r).mode = r.mode := by
  cases c <;> rfl

@[simp] theorem setChan_runSince (c : Channel) (x : ChannelRegs) (r : Regs) : (setChan c x r).runSince = r.runSince := by
  cases c <;> rfl

@[simp] theorem setChan_btnPrev (c : Channel) (x : ChannelRegs) (r : Regs) : (setChan c x r).btnPrev = r.btnPrev := by
  cases c <;> rfl

@[simp] theorem setChan_lastAccept (c : Channel) (x : ChannelRegs) (r : Regs) : (setChan c x r).lastAccept = r.lastAccept := by
  cases c <;> rfl

@[simp] theorem setChan_lastValid (c : Channel) (x : ChannelRegs) (r : Regs) : (setChan c x r).lastValid = r.lastValid := by
  cases c <;> rfl

@[simp] theorem setChan_stgLedFreq (c : Channel) (x : ChannelRegs) (r : Regs) : (setChan c x r).stgLedFreq = r.stgLedFreq := by
  cases c <;> rfl

@[simp] theorem setChan_stgLedDuty (c : Channel) (x : ChannelRegs) (r : Regs) : (setChan c x r).stgLedDuty = r.stgLedDuty := by
  cases c <;> rfl

@[simp] theorem setChan_stgMagFreq (c : Channel) (x : ChannelRegs) (r : Regs) : (setChan c x r).stgMagFreq = r.stgMagFreq := by
  cases c <;> rfl

@[simp] theorem setChan_stgMagDuty (c : Channel) (x : ChannelRegs) (r : Regs) : (setChan c x r).stgMagDuty = r.stgMagDuty := by
  cases c <;> rfl

@[simp] theorem setChan_reject (c : Channel) (x : ChannelRegs) (r : Regs) : (setChan c x r).reject = r.reject := by
  cases c <;> rfl

@[simp] theorem setChan_saveReq (c : Channel) (x : ChannelRegs) (r : Regs) : (setChan c x r).saveReq = r.saveReq := by
  cases c <;> rfl

@[simp] theorem enEff_setChan (c d : Channel) (x : ChannelRegs) (r : Regs) : enEff d (setChan c x r) = enEff d r := by
  cases c <;> cases d <;> rfl

/-! ### A write of any other element leaves the channels alone -/

@[simp] theorem chan_with_now (c : Channel) (r : Regs) (v : U64) : chan c { r with now := v } = chan c r := by
  cases c <;> rfl

@[simp] theorem chan_with_en (c : Channel) (r : Regs) (v : Bool) : chan c { r with en := v } = chan c r := by
  cases c <;> rfl

@[simp] theorem chan_with_magOvr (c : Channel) (r : Regs) (v : Bool) : chan c { r with magOvr := v } = chan c r := by
  cases c <;> rfl

@[simp] theorem chan_with_mode (c : Channel) (r : Regs) (v : Mode) : chan c { r with mode := v } = chan c r := by
  cases c <;> rfl

@[simp] theorem chan_with_runSince (c : Channel) (r : Regs) (v : U64) : chan c { r with runSince := v } = chan c r := by
  cases c <;> rfl

@[simp] theorem chan_with_btnPrev (c : Channel) (r : Regs) (v : Bool) : chan c { r with btnPrev := v } = chan c r := by
  cases c <;> rfl

@[simp] theorem chan_with_lastAccept (c : Channel) (r : Regs) (v : U64) : chan c { r with lastAccept := v } = chan c r := by
  cases c <;> rfl

@[simp] theorem chan_with_lastValid (c : Channel) (r : Regs) (v : Bool) : chan c { r with lastValid := v } = chan c r := by
  cases c <;> rfl

@[simp] theorem chan_with_stgLedFreq (c : Channel) (r : Regs) (v : U32) : chan c { r with stgLedFreq := v } = chan c r := by
  cases c <;> rfl

@[simp] theorem chan_with_stgLedDuty (c : Channel) (r : Regs) (v : U32) : chan c { r with stgLedDuty := v } = chan c r := by
  cases c <;> rfl

@[simp] theorem chan_with_stgMagFreq (c : Channel) (r : Regs) (v : U32) : chan c { r with stgMagFreq := v } = chan c r := by
  cases c <;> rfl

@[simp] theorem chan_with_stgMagDuty (c : Channel) (r : Regs) (v : U32) : chan c { r with stgMagDuty := v } = chan c r := by
  cases c <;> rfl

@[simp] theorem chan_with_reject (c : Channel) (r : Regs) (v : Bool) : chan c { r with reject := v } = chan c r := by
  cases c <;> rfl

@[simp] theorem chan_with_saveReq (c : Channel) (r : Regs) (v : Bool) : chan c { r with saveReq := v } = chan c r := by
  cases c <;> rfl

/-! ### The state around the registers -/

@[simp] theorem driveZero_params (s : State) : (driveZero s).params = s.params := rfl
@[simp] theorem driveZero_regs (s : State) : (driveZero s).regs = s.regs := rfl
@[simp] theorem driveZero_latch (s : State) : (driveZero s).latch = s.latch := rfl
@[simp] theorem driveZero_rdata (s : State) : (driveZero s).rdata = 0 := rfl
@[simp] theorem driveZero_pins (s : State) : (driveZero s).pins = s.pins := rfl
@[simp] theorem driveZero_inputs (s : State) : (driveZero s).inputs = s.inputs := rfl

@[simp] theorem onRegs_params (f : Regs → Regs) (s : State) : (onRegs f s).params = s.params := rfl
@[simp] theorem onRegs_regs (f : Regs → Regs) (s : State) : (onRegs f s).regs = f s.regs := rfl
@[simp] theorem onRegs_latch (f : Regs → Regs) (s : State) : (onRegs f s).latch = s.latch := rfl
@[simp] theorem onRegs_rdata (f : Regs → Regs) (s : State) : (onRegs f s).rdata = 0 := rfl
@[simp] theorem onRegs_pins (f : Regs → Regs) (s : State) : (onRegs f s).pins = s.pins := rfl
@[simp] theorem onRegs_inputs (f : Regs → Regs) (s : State) : (onRegs f s).inputs = s.inputs := rfl

@[simp] theorem takeInput_params (s : State) : (takeInput s).params = s.params := rfl
@[simp] theorem takeInput_regs (s : State) : (takeInput s).regs = s.regs := rfl
@[simp] theorem takeInput_latch (s : State) : (takeInput s).latch = s.latch := rfl
@[simp] theorem takeInput_rdata (s : State) : (takeInput s).rdata = s.rdata := rfl
@[simp] theorem takeInput_pins (s : State) : (takeInput s).pins = (nextInput s).pins := rfl
@[simp] theorem takeInput_inputs (s : State) : (takeInput s).inputs = s.inputs.tail := rfl

@[simp] theorem beforeHost_params (s : State) : (beforeHost s).params = s.params := rfl
@[simp] theorem beforeHost_regs (s : State) : (beforeHost s).regs = regsBeforeHost s.params s.pins.btn s.regs := rfl
@[simp] theorem beforeHost_latch (s : State) : (beforeHost s).latch = some s.regs := rfl
@[simp] theorem beforeHost_rdata (s : State) : (beforeHost s).rdata = s.rdata := rfl
@[simp] theorem beforeHost_pins (s : State) : (beforeHost s).pins = s.pins := rfl
@[simp] theorem beforeHost_inputs (s : State) : (beforeHost s).inputs = s.inputs := rfl

@[simp] theorem afterHost_params (s : State) : (afterHost s).params = s.params := rfl
@[simp] theorem afterHost_regs (s : State) : (afterHost s).regs = regsAfterHost s.params s.regs := rfl
@[simp] theorem afterHost_latch (s : State) : (afterHost s).latch = none := rfl
@[simp] theorem afterHost_rdata (s : State) : (afterHost s).rdata = s.rdata := rfl
@[simp] theorem afterHost_pins (s : State) : (afterHost s).pins = s.pins := rfl
@[simp] theorem afterHost_inputs (s : State) : (afterHost s).inputs = s.inputs := rfl

@[simp] theorem resetTick_params (s : State) : (resetTick s).params = s.params := rfl
@[simp] theorem resetTick_regs (s : State) : (resetTick s).regs = resetRegs s.params s.pins.initFail := rfl
@[simp] theorem resetTick_latch (s : State) : (resetTick s).latch = none := rfl
@[simp] theorem resetTick_rdata (s : State) : (resetTick s).rdata = 0 := rfl
@[simp] theorem resetTick_pins (s : State) : (resetTick s).pins = s.pins := rfl
@[simp] theorem resetTick_inputs (s : State) : (resetTick s).inputs = s.inputs := rfl

@[simp] theorem placeWord_params (w : TxnWord) (s : State) : (placeWord w s).params = s.params := rfl
@[simp] theorem placeWord_regs (w : TxnWord) (s : State) : (placeWord w s).regs = s.regs := rfl
@[simp] theorem placeWord_latch (w : TxnWord) (s : State) : (placeWord w s).latch = s.latch := rfl
@[simp] theorem placeWord_rdata (w : TxnWord) (s : State) : (placeWord w s).rdata = s.rdata := rfl
@[simp] theorem placeWord_pins (w : TxnWord) (s : State) : (placeWord w s).pins = s.pins := rfl
@[simp] theorem placeWord_inputs (w : TxnWord) (s : State) : (placeWord w s).inputs = ⟨{ (nextInput s).pins with rst := false }, w⟩ :: s.inputs.tail := rfl

@[simp] theorem nextInput_cons (s : State) (i : TickInput) (l : List TickInput) (h : s.inputs = i :: l) :
    nextInput s = i := by
  simp [nextInput, h]

@[simp] theorem nextInput_placeWord (w : TxnWord) (s : State) :
    nextInput (placeWord w s) = ⟨{ (nextInput s).pins with rst := false }, w⟩ := rfl

@[simp] theorem resetWith_regs (p : Params) (f : Straps) : (State.resetWith p f).regs = resetRegs p f := rfl

@[simp] theorem resetWith_params (p : Params) (f : Straps) : (State.resetWith p f).params = p := rfl

@[simp] theorem readView_none (s : State) (h : s.latch = none) : readView s = s.regs := by
  simp [readView, h]

@[simp] theorem readView_some (s : State) (r : Regs) (h : s.latch = some r) : readView s = r := by
  simp [readView, h]

end Sys2Proof.Machine
end

