-- ==== Sys2Proof/Laws/Ops.lean ====
section
/-! SUPPORT. The shared operations `start`, `stop` and `raise`: everything each of them can do. -/

namespace Sys2Proof.Machine

/-! ### `start` (R86) -/

theorem start_failed (c : Channel) (r : Regs) (h : (chan c r).fail = true) : start c r = r := by
  simp [start, h]

theorem start_sound (c : Channel) (r : Regs) (h : (chan c r).fail = false) :
    start c r = setChan c { chan c r with level := false, armed := true, cnt := (chan c r).lowUs } r := by
  simp [start, h]

/-- `start` is a write of its own channel alone. -/
theorem start_eq_setChan (c : Channel) (r : Regs) :
    start c r = setChan c (if (chan c r).fail then chan c r
      else { chan c r with level := false, armed := true, cnt := (chan c r).lowUs }) r := by
  unfold start; split
  · exact (regs_eq_setChan c r).symm
  · rfl

theorem chan_start_same (c : Channel) (r : Regs) : chan c (start c r) =
    if (chan c r).fail then chan c r
    else { chan c r with level := false, armed := true, cnt := (chan c r).lowUs } := by
  unfold start; split <;> simp [*]

theorem chan_start_other (c d : Channel) (r : Regs) (h : d ≠ c) : chan d (start c r) = chan d r := by
  unfold start; split
  · rfl
  · exact chan_setChan_other c d _ r h

@[simp] theorem enEff_start (c d : Channel) (r : Regs) : enEff d (start c r) = enEff d r := by
  unfold start; split <;> simp

@[simp] theorem start_led_mag (r : Regs) : (start .led r).mag = r.mag := chan_start_other .led .mag r (by decide)

@[simp] theorem start_mag_led (r : Regs) : (start .mag r).led = r.led := chan_start_other .mag .led r (by decide)

theorem start_led_led (r : Regs) : (start .led r).led =
    if r.led.fail then r.led else { r.led with level := false, armed := true, cnt := r.led.lowUs } :=
  chan_start_same .led r

theorem start_mag_mag (r : Regs) : (start .mag r).mag =
    if r.mag.fail then r.mag else { r.mag with level := false, armed := true, cnt := r.mag.lowUs } :=
  chan_start_same .mag r

@[simp] theorem start_now (c : Channel) (r : Regs) : (start c r).now = r.now := by
  unfold start; split <;> simp

@[simp] theorem start_en (c : Channel) (r : Regs) : (start c r).en = r.en := by
  unfold start; split <;> simp

@[simp] theorem start_magOvr (c : Channel) (r : Regs) : (start c r).magOvr = r.magOvr := by
  unfold start; split <;> simp

@[simp] theorem start_mode (c : Channel) (r : Regs) : (start c r).mode = r.mode := by
  unfold start; split <;> simp

@[simp] theorem start_runSince (c : Channel) (r : Regs) : (start c r).runSince = r.runSince := by
  unfold start; split <;> simp

@[simp] theorem start_btnPrev (c : Channel) (r : Regs) : (start c r).btnPrev = r.btnPrev := by
  unfold start; split <;> simp

@[simp] theorem start_lastAccept (c : Channel) (r : Regs) : (start c r).lastAccept = r.lastAccept := by
  unfold start; split <;> simp

@[simp] theorem start_lastValid (c : Channel) (r : Regs) : (start c r).lastValid = r.lastValid := by
  unfold start; split <;> simp

@[simp] theorem start_stgLedFreq (c : Channel) (r : Regs) : (start c r).stgLedFreq = r.stgLedFreq := by
  unfold start; split <;> simp

@[simp] theorem start_stgLedDuty (c : Channel) (r : Regs) : (start c r).stgLedDuty = r.stgLedDuty := by
  unfold start; split <;> simp

@[simp] theorem start_stgMagFreq (c : Channel) (r : Regs) : (start c r).stgMagFreq = r.stgMagFreq := by
  unfold start; split <;> simp

@[simp] theorem start_stgMagDuty (c : Channel) (r : Regs) : (start c r).stgMagDuty = r.stgMagDuty := by
  unfold start; split <;> simp

@[simp] theorem start_reject (c : Channel) (r : Regs) : (start c r).reject = r.reject := by
  unfold start; split <;> simp

@[simp] theorem start_saveReq (c : Channel) (r : Regs) : (start c r).saveReq = r.saveReq := by
  unfold start; split <;> simp

/-! ### `stop` (R87) -/

@[simp] theorem stop_led (r : Regs) : stop .led r = { r with led := { r.led with level := false, armed := false } } := rfl

@[simp] theorem stop_mag (r : Regs) : stop .mag r = { r with mag := { r.mag with level := false, armed := false } } := rfl

theorem chan_stop_same (c : Channel) (r : Regs) :
    chan c (stop c r) = { chan c r with level := false, armed := false } := by
  simp [stop]

theorem chan_stop_other (c d : Channel) (r : Regs) (h : d ≠ c) : chan d (stop c r) = chan d r :=
  chan_setChan_other c d _ r h

theorem stop_now (c : Channel) (r : Regs) : (stop c r).now = r.now := by
  simp [stop]

theorem stop_en (c : Channel) (r : Regs) : (stop c r).en = r.en := by
  simp [stop]

theorem stop_magOvr (c : Channel) (r : Regs) : (stop c r).magOvr = r.magOvr := by
  simp [stop]

theorem stop_mode (c : Channel) (r : Regs) : (stop c r).mode = r.mode := by
  simp [stop]

theorem stop_runSince (c : Channel) (r : Regs) : (stop c r).runSince = r.runSince := by
  simp [stop]

theorem stop_btnPrev (c : Channel) (r : Regs) : (stop c r).btnPrev = r.btnPrev := by
  simp [stop]

theorem stop_lastAccept (c : Channel) (r : Regs) : (stop c r).lastAccept = r.lastAccept := by
  simp [stop]

theorem stop_lastValid (c : Channel) (r : Regs) : (stop c r).lastValid = r.lastValid := by
  simp [stop]

theorem stop_stgLedFreq (c : Channel) (r : Regs) : (stop c r).stgLedFreq = r.stgLedFreq := by
  simp [stop]

theorem stop_stgLedDuty (c : Channel) (r : Regs) : (stop c r).stgLedDuty = r.stgLedDuty := by
  simp [stop]

theorem stop_stgMagFreq (c : Channel) (r : Regs) : (stop c r).stgMagFreq = r.stgMagFreq := by
  simp [stop]

theorem stop_stgMagDuty (c : Channel) (r : Regs) : (stop c r).stgMagDuty = r.stgMagDuty := by
  simp [stop]

theorem stop_reject (c : Channel) (r : Regs) : (stop c r).reject = r.reject := by
  simp [stop]

theorem stop_saveReq (c : Channel) (r : Regs) : (stop c r).saveReq = r.saveReq := by
  simp [stop]

theorem channel_eq_halted (x : ChannelRegs) (ha : x.armed = false) (hl : x.level = false) :
    ({ x with level := false, armed := false } : ChannelRegs) = x := by
  cases x; simp_all

/-- `stop` on a channel already stopped changes nothing (R87). -/
theorem stop_stopped (c : Channel) (r : Regs) (ha : (chan c r).armed = false) (hl : (chan c r).level = false) :
    stop c r = r := by
  rw [stop, channel_eq_halted _ ha hl, regs_eq_setChan]

/-! ### `raise` (R7, R145) -/

@[simp] theorem raise_invalidParameter (r : Regs) : raise .invalidParameter r = { r with reject := true } := rfl

@[simp] theorem raise_hardwareInitFailure (c : Channel) (r : Regs) :
    raise (.hardwareInitFailure c) r = setChan c { chan c r with fail := true } r := rfl

@[simp] theorem raise_transientLinkLoss (r : Regs) : raise .transientLinkLoss r = r := rfl

@[simp] theorem raise_debounceReject (r : Regs) : raise .debounceReject r = r := rfl

end Sys2Proof.Machine
end

