-- ==== Sys2Proof/Laws/Button.lean ====
section
/-! SUPPORT. The button phase and the mode sequencer: what an accepted edge does, what anything else leaves alone. -/

namespace Sys2Proof.Machine

/-- With no accepted edge the button phase writes `BTN_PREV` and nothing else (R90, R93). -/
theorem buttonPhase_quiet (p : Params) (btn : Bool) (r : Regs) (h : acceptsEdge p btn r = false) :
    buttonPhase p btn r = { r with btnPrev := btn } := by
  unfold buttonPhase
  split
  · split
    · simp_all [acceptsEdge]
    · rfl
  · rfl

/-- An accepted edge: `BTN_PREV`, `LAST_ACCEPT`, `LAST_VALID`, then the controller (R92). -/
theorem buttonPhase_accepted (p : Params) (btn : Bool) (r : Regs) (h : acceptsEdge p btn r = true) :
    buttonPhase p btn r =
      controllerAction p { r with btnPrev := btn, lastAccept := r.now, lastValid := true } := by
  have h' := h
  simp only [acceptsEdge, Bool.and_eq_true] at h'
  simp [buttonPhase, h'.1, h'.2, acceptEdge]

theorem controllerAction_disable (p : Params) (r : Regs) (hl : p.legacyModes = false) (he : r.en = true) :
    controllerAction p r = disable r := by
  simp [controllerAction, hl, he]

theorem controllerAction_enable (p : Params) (r : Regs) (hl : p.legacyModes = false) (he : r.en = false) :
    controllerAction p r = enable r := by
  simp [controllerAction, hl, he]

theorem controllerAction_legacy (p : Params) (r : Regs) (hl : p.legacyModes = true) :
    controllerAction p r = advanceMode p r := by
  simp [controllerAction, hl]

/-- Everything the controller can do, in either variant. -/
theorem controllerAction_cases (p : Params) (r : Regs) :
    controllerAction p r = disable r ∨ controllerAction p r = enable r ∨
    controllerAction p r = runToMagnetOff r ∨ controllerAction p r = magnetOffToAllOff r ∨
    controllerAction p r = enterRun p r ∨ controllerAction p r = r := by
  unfold controllerAction advanceMode
  split
  · split <;> simp
  · split <;> simp

/-! ### The idle phase (R141) -/

theorem idlePhase_quiet (p : Params) (r : Regs) (h : idleDue p r = false) : idlePhase p r = r := by
  simp [idlePhase, h]

theorem idlePhase_due (p : Params) (r : Regs) (h : idleDue p r = true) : idlePhase p r = idleShutoff r := by
  simp [idlePhase, h]

theorem idleDue_canonical (p : Params) (r : Regs) (h : p.legacyModes = false) : idleDue p r = false := by
  simp [idleDue, h]

/-! ### What P2 and P4 never write (R31) -/

@[simp] theorem controllerAction_now (p : Params) (r : Regs) : (controllerAction p r).now = r.now := by
  rcases controllerAction_cases p r with h | h | h | h | h | h <;> rw [h] <;>
    simp [disable, enable, runToMagnetOff, magnetOffToAllOff, enterRun, loadBaseFreq]

@[simp] theorem buttonPhase_now (p : Params) (btn : Bool) (r : Regs) : (buttonPhase p btn r).now = r.now := by
  cases h : acceptsEdge p btn r
  · rw [buttonPhase_quiet p btn r h]
  · rw [buttonPhase_accepted p btn r h]; simp

@[simp] theorem controllerAction_stgLedFreq (p : Params) (r : Regs) : (controllerAction p r).stgLedFreq = r.stgLedFreq := by
  rcases controllerAction_cases p r with h | h | h | h | h | h <;> rw [h] <;>
    simp [disable, enable, runToMagnetOff, magnetOffToAllOff, enterRun, loadBaseFreq]

@[simp] theorem buttonPhase_stgLedFreq (p : Params) (btn : Bool) (r : Regs) : (buttonPhase p btn r).stgLedFreq = r.stgLedFreq := by
  cases h : acceptsEdge p btn r
  · rw [buttonPhase_quiet p btn r h]
  · rw [buttonPhase_accepted p btn r h]; simp

@[simp] theorem controllerAction_stgLedDuty (p : Params) (r : Regs) : (controllerAction p r).stgLedDuty = r.stgLedDuty := by
  rcases controllerAction_cases p r with h | h | h | h | h | h <;> rw [h] <;>
    simp [disable, enable, runToMagnetOff, magnetOffToAllOff, enterRun, loadBaseFreq]

@[simp] theorem buttonPhase_stgLedDuty (p : Params) (btn : Bool) (r : Regs) : (buttonPhase p btn r).stgLedDuty = r.stgLedDuty := by
  cases h : acceptsEdge p btn r
  · rw [buttonPhase_quiet p btn r h]
  · rw [buttonPhase_accepted p btn r h]; simp

@[simp] theorem controllerAction_stgMagDuty (p : Params) (r : Regs) : (controllerAction p r).stgMagDuty = r.stgMagDuty := by
  rcases controllerAction_cases p r with h | h | h | h | h | h <;> rw [h] <;>
    simp [disable, enable, runToMagnetOff, magnetOffToAllOff, enterRun, loadBaseFreq]

@[simp] theorem buttonPhase_stgMagDuty (p : Params) (btn : Bool) (r : Regs) : (buttonPhase p btn r).stgMagDuty = r.stgMagDuty := by
  cases h : acceptsEdge p btn r
  · rw [buttonPhase_quiet p btn r h]
  · rw [buttonPhase_accepted p btn r h]; simp

@[simp] theorem controllerAction_reject (p : Params) (r : Regs) : (controllerAction p r).reject = r.reject := by
  rcases controllerAction_cases p r with h | h | h | h | h | h <;> rw [h] <;>
    simp [disable, enable, runToMagnetOff, magnetOffToAllOff, enterRun, loadBaseFreq]

@[simp] theorem buttonPhase_reject (p : Params) (btn : Bool) (r : Regs) : (buttonPhase p btn r).reject = r.reject := by
  cases h : acceptsEdge p btn r
  · rw [buttonPhase_quiet p btn r h]
  · rw [buttonPhase_accepted p btn r h]; simp

@[simp] theorem controllerAction_saveReq (p : Params) (r : Regs) : (controllerAction p r).saveReq = r.saveReq := by
  rcases controllerAction_cases p r with h | h | h | h | h | h <;> rw [h] <;>
    simp [disable, enable, runToMagnetOff, magnetOffToAllOff, enterRun, loadBaseFreq]

@[simp] theorem buttonPhase_saveReq (p : Params) (btn : Bool) (r : Regs) : (buttonPhase p btn r).saveReq = r.saveReq := by
  cases h : acceptsEdge p btn r
  · rw [buttonPhase_quiet p btn r h]
  · rw [buttonPhase_accepted p btn r h]; simp

@[simp] theorem idlePhase_now (p : Params) (r : Regs) : (idlePhase p r).now = r.now := by
  unfold idlePhase idleShutoff; split <;> simp

@[simp] theorem idlePhase_stgLedFreq (p : Params) (r : Regs) : (idlePhase p r).stgLedFreq = r.stgLedFreq := by
  unfold idlePhase idleShutoff; split <;> simp

@[simp] theorem idlePhase_stgLedDuty (p : Params) (r : Regs) : (idlePhase p r).stgLedDuty = r.stgLedDuty := by
  unfold idlePhase idleShutoff; split <;> simp

@[simp] theorem idlePhase_stgMagDuty (p : Params) (r : Regs) : (idlePhase p r).stgMagDuty = r.stgMagDuty := by
  unfold idlePhase idleShutoff; split <;> simp

@[simp] theorem idlePhase_reject (p : Params) (r : Regs) : (idlePhase p r).reject = r.reject := by
  unfold idlePhase idleShutoff; split <;> simp

@[simp] theorem idlePhase_saveReq (p : Params) (r : Regs) : (idlePhase p r).saveReq = r.saveReq := by
  unfold idlePhase idleShutoff; split <;> simp

@[simp] theorem idlePhase_stgMagFreq (p : Params) (r : Regs) : (idlePhase p r).stgMagFreq = r.stgMagFreq := by
  unfold idlePhase idleShutoff; split <;> simp

@[simp] theorem idlePhase_runSince (p : Params) (r : Regs) : (idlePhase p r).runSince = r.runSince := by
  unfold idlePhase idleShutoff; split <;> simp

@[simp] theorem idlePhase_btnPrev (p : Params) (r : Regs) : (idlePhase p r).btnPrev = r.btnPrev := by
  unfold idlePhase idleShutoff; split <;> simp

@[simp] theorem idlePhase_lastAccept (p : Params) (r : Regs) : (idlePhase p r).lastAccept = r.lastAccept := by
  unfold idlePhase idleShutoff; split <;> simp

@[simp] theorem idlePhase_lastValid (p : Params) (r : Regs) : (idlePhase p r).lastValid = r.lastValid := by
  unfold idlePhase idleShutoff; split <;> simp

@[simp] theorem chan_controllerAction_fail (c : Channel) (p : Params) (r : Regs) :
    (chan c (controllerAction p r)).fail = (chan c r).fail := by
  rcases controllerAction_cases p r with h | h | h | h | h | h <;> rw [h] <;> cases c <;>
    simp [disable, enable, runToMagnetOff, magnetOffToAllOff, enterRun, loadBaseFreq, start_led_led, start_mag_mag] <;>
    split <;> simp

@[simp] theorem chan_buttonPhase_fail (c : Channel) (p : Params) (btn : Bool) (r : Regs) :
    (chan c (buttonPhase p btn r)).fail = (chan c r).fail := by
  cases h : acceptsEdge p btn r
  · rw [buttonPhase_quiet p btn r h]; simp
  · rw [buttonPhase_accepted p btn r h, chan_controllerAction_fail]; cases c <;> rfl

@[simp] theorem chan_idlePhase_freq (c : Channel) (p : Params) (r : Regs) :
    (chan c (idlePhase p r)).freq = (chan c r).freq := by
  unfold idlePhase idleShutoff; split <;> cases c <;> simp

@[simp] theorem chan_idlePhase_duty (c : Channel) (p : Params) (r : Regs) :
    (chan c (idlePhase p r)).duty = (chan c r).duty := by
  unfold idlePhase idleShutoff; split <;> cases c <;> simp

@[simp] theorem chan_idlePhase_highUs (c : Channel) (p : Params) (r : Regs) :
    (chan c (idlePhase p r)).highUs = (chan c r).highUs := by
  unfold idlePhase idleShutoff; split <;> cases c <;> simp

@[simp] theorem chan_idlePhase_lowUs (c : Channel) (p : Params) (r : Regs) :
    (chan c (idlePhase p r)).lowUs = (chan c r).lowUs := by
  unfold idlePhase idleShutoff; split <;> cases c <;> simp

@[simp] theorem chan_idlePhase_cnt (c : Channel) (p : Params) (r : Regs) :
    (chan c (idlePhase p r)).cnt = (chan c r).cnt := by
  unfold idlePhase idleShutoff; split <;> cases c <;> simp

@[simp] theorem chan_idlePhase_fail (c : Channel) (p : Params) (r : Regs) :
    (chan c (idlePhase p r)).fail = (chan c r).fail := by
  unfold idlePhase idleShutoff; split <;> cases c <;> simp

end Sys2Proof.Machine
end

