-- ==== Sys2Proof/Laws/Command.lean ====
section
/-! SUPPORT. The install step: its two outcomes, and what it never writes. -/

namespace Sys2Proof.Machine

/-- R117, both pairs valid. -/
theorem install_accepted (lf ld mf md : Nat) (r : Regs) (h : acceptable lf ld mf md = true) :
    install lf ld mf md r =
      syncStaging (flagAccepted { r with led := withCodes lf ld r.led, mag := withCodes mf md r.mag }) := by
  simp [install, h]

/-- R117, R146, a pair that is not valid: only `REJECT` and the staging registers are written. -/
theorem install_rejected (lf ld mf md : Nat) (r : Regs) (h : acceptable lf ld mf md = false) :
    install lf ld mf md r = syncStaging { r with reject := true } := by
  simp [install, h, flagRejected]

/-- What R117 never writes, in one lemma: the timers, the device state, the button state and the time. -/
theorem install_frame (lf ld mf md : Nat) (r : Regs) :
    (∀ c, (chan c (install lf ld mf md r)).cnt = (chan c r).cnt ∧
      (chan c (install lf ld mf md r)).level = (chan c r).level ∧
      (chan c (install lf ld mf md r)).armed = (chan c r).armed ∧
      (chan c (install lf ld mf md r)).fail = (chan c r).fail) ∧
    (install lf ld mf md r).now = r.now ∧ (install lf ld mf md r).en = r.en ∧
    (install lf ld mf md r).magOvr = r.magOvr ∧ (install lf ld mf md r).mode = r.mode ∧
    (install lf ld mf md r).runSince = r.runSince ∧ (install lf ld mf md r).btnPrev = r.btnPrev ∧
    (install lf ld mf md r).lastAccept = r.lastAccept ∧ (install lf ld mf md r).lastValid = r.lastValid := by
  cases h : acceptable lf ld mf md
  · rw [install_rejected _ _ _ _ _ h]
    refine ⟨fun c => ?_, rfl, rfl, rfl, rfl, rfl, rfl, rfl, rfl⟩
    cases c <;> exact ⟨rfl, rfl, rfl, rfl⟩
  · rw [install_accepted _ _ _ _ _ h]
    refine ⟨fun c => ?_, rfl, rfl, rfl, rfl, rfl, rfl, rfl, rfl⟩
    cases c <;> exact ⟨rfl, rfl, rfl, rfl⟩

/-- The defaults of an SDT2 are acceptable (R113, R4). -/
theorem defaults_acceptable (p : Params) (h : p.WellFormed) :
    acceptable p.defLedFreq.toNat p.defLedDuty.toNat p.defMagFreq.toNat p.defMagDuty.toNat = true := by
  obtain ⟨_, _, h1, h2, h3, h4, _⟩ := h
  have a := p.defLedFreq.isLt
  have b := p.defMagFreq.isLt
  simp only [acceptable, valid, Bool.and_eq_true, decide_eq_true_eq]
  omega

end Sys2Proof.Machine
end

