-- ==== Sys2Proof/Laws/Encoding.lean ====
section
/-! SUPPORT. The transaction word and its three fields: building and taking apart are inverse (R55). -/

namespace Sys2Proof

theorem toNat_txnWord (op : BitVec 2) (a : Addr) (v : U32) :
    (txnWord op a v).toNat = op.toNat * 2 ^ 36 + a.toNat * 2 ^ 32 + v.toNat := by
  have h1 : op.toNat <<< 4 ||| a.toNat = op.toNat * 16 + a.toNat := by
    rw [← Nat.shiftLeft_add_eq_or_of_lt a.isLt, Nat.shiftLeft_eq]
  have h2 : (op.toNat * 16 + a.toNat) <<< 32 ||| v.toNat = (op.toNat * 16 + a.toNat) * 4294967296 + v.toNat := by
    rw [← Nat.shiftLeft_add_eq_or_of_lt v.isLt, Nat.shiftLeft_eq]
  have h : (txnWord op a v).toNat = (op.toNat <<< 4 ||| a.toNat) <<< 32 ||| v.toNat := rfl
  rw [h, h1, h2]
  omega

@[simp] theorem opField_txnWord (op : BitVec 2) (a : Addr) (v : U32) : opField (txnWord op a v) = op := by
  apply BitVec.eq_of_toNat_eq
  have ho := op.isLt
  have ha := a.isLt
  have hv := v.isLt
  simp only [opField, BitVec.extractLsb'_toNat, toNat_txnWord, Nat.shiftRight_eq_div_pow]
  omega

@[simp] theorem addrField_txnWord (op : BitVec 2) (a : Addr) (v : U32) : addrField (txnWord op a v) = a := by
  apply BitVec.eq_of_toNat_eq
  have ho := op.isLt
  have ha := a.isLt
  have hv := v.isLt
  simp only [addrField, BitVec.extractLsb'_toNat, toNat_txnWord, Nat.shiftRight_eq_div_pow]
  omega

@[simp] theorem dataField_txnWord (op : BitVec 2) (a : Addr) (v : U32) : dataField (txnWord op a v) = v := by
  apply BitVec.eq_of_toNat_eq
  have ho := op.isLt
  have ha := a.isLt
  have hv := v.isLt
  simp only [dataField, BitVec.extractLsb'_toNat, toNat_txnWord, Nat.shiftRight_eq_div_pow]
  omega

/-- A word is the word of its own fields. -/
theorem txnWord_fields (t : TxnWord) : txnWord (opField t) (addrField t) (dataField t) = t := by
  apply BitVec.eq_of_toNat_eq
  have ht := t.isLt
  simp only [toNat_txnWord, opField, addrField, dataField, BitVec.extractLsb'_toNat, Nat.shiftRight_eq_div_pow]
  omega

theorem txnWord_inj (o o' : BitVec 2) (a a' : Addr) (d d' : U32) :
    txnWord o a d = txnWord o' a' d' ↔ o = o' ∧ a = a' ∧ d = d' := by
  constructor
  · intro h
    exact ⟨by rw [← opField_txnWord o a d, h, opField_txnWord],
      by rw [← addrField_txnWord o a d, h, addrField_txnWord],
      by rw [← dataField_txnWord o a d, h, dataField_txnWord]⟩
  · rintro ⟨rfl, rfl, rfl⟩; rfl

@[simp] theorem ofAddr_addr (a : RegName) : RegName.ofAddr a.addr = a := by cases a <;> rfl

theorem addr_ofAddr : ∀ a : Addr, (RegName.ofAddr a).addr = a := by decide

end Sys2Proof
end

