-- ==== Sys2Proof/Laws/Oscillator.lean ====
section
/-! SUPPORT. The timer phase: what one countdown does to its own channel, and that it touches nothing else. -/

namespace Sys2Proof.Machine

/-- What the timer phase makes of one channel, given whether the guard of R83 lets it toggle. -/
def countdownChan (may : Bool) (x : ChannelRegs) : ChannelRegs :=
  if x.cnt = 0 then x
  else if x.cnt = 1 then (if may then toggled x else { x with cnt := 0 })
  else { x with cnt := x.cnt - 1 }

/-- The countdown of a channel is a write of that channel alone. -/
theorem countdown_eq_setChan (c : Channel) (r : Regs) :
    countdown c r = setChan c (countdownChan (mayToggle c r) (chan c r)) r := by
  unfold countdown countdownChan expire
  split
  · exact (regs_eq_setChan c r).symm
  · split <;> (try split) <;> rfl

theorem chan_countdown_same (c : Channel) (r : Regs) :
    chan c (countdown c r) = countdownChan (mayToggle c r) (chan c r) := by
  simp [countdown_eq_setChan]

theorem chan_countdown_other (c d : Channel) (r : Regs) (h : d ≠ c) : chan d (countdown c r) = chan d r := by
  rw [countdown_eq_setChan, chan_setChan_other c d _ r h]

@[simp] theorem enEff_countdown (c d : Channel) (r : Regs) : enEff d (countdown c r) = enEff d r := by
  simp [countdown_eq_setChan]

theorem mayToggle_countdown_other (c d : Channel) (r : Regs) (h : d ≠ c) :
    mayToggle d (countdown c r) = mayToggle d r := by
  simp [mayToggle, chan_countdown_other c d r h]

@[simp] theorem countdown_now (c : Channel) (r : Regs) : (countdown c r).now = r.now := by
  simp [countdown_eq_setChan]

@[simp] theorem countdown_en (c : Channel) (r : Regs) : (countdown c r).en = r.en := by
  simp [countdown_eq_setChan]

@[simp] theorem countdown_magOvr (c : Channel) (r : Regs) : (countdown c r).magOvr = r.magOvr := by
  simp [countdown_eq_setChan]

@[simp] theorem countdown_mode (c : Channel) (r : Regs) : (countdown c r).mode = r.mode := by
  simp [countdown_eq_setChan]

@[simp] theorem countdown_runSince (c : Channel) (r : Regs) : (countdown c r).runSince = r.runSince := by
  simp [countdown_eq_setChan]

@[simp] theorem countdown_btnPrev (c : Channel) (r : Regs) : (countdown c r).btnPrev = r.btnPrev := by
  simp [countdown_eq_setChan]

@[simp] theorem countdown_lastAccept (c : Channel) (r : Regs) : (countdown c r).lastAccept = r.lastAccept := by
  simp [countdown_eq_setChan]

@[simp] theorem countdown_lastValid (c : Channel) (r : Regs) : (countdown c r).lastValid = r.lastValid := by
  simp [countdown_eq_setChan]

@[simp] theorem countdown_stgLedFreq (c : Channel) (r : Regs) : (countdown c r).stgLedFreq = r.stgLedFreq := by
  simp [countdown_eq_setChan]

@[simp] theorem countdown_stgLedDuty (c : Channel) (r : Regs) : (countdown c r).stgLedDuty = r.stgLedDuty := by
  simp [countdown_eq_setChan]

@[simp] theorem countdown_stgMagFreq (c : Channel) (r : Regs) : (countdown c r).stgMagFreq = r.stgMagFreq := by
  simp [countdown_eq_setChan]

@[simp] theorem countdown_stgMagDuty (c : Channel) (r : Regs) : (countdown c r).stgMagDuty = r.stgMagDuty := by
  simp [countdown_eq_setChan]

@[simp] theorem countdown_reject (c : Channel) (r : Regs) : (countdown c r).reject = r.reject := by
  simp [countdown_eq_setChan]

@[simp] theorem countdown_saveReq (c : Channel) (r : Regs) : (countdown c r).saveReq = r.saveReq := by
  simp [countdown_eq_setChan]

/-- "The two channels do not share any state that this phase writes" (R82): each channel comes out as if it were alone. -/
theorem chan_timerPhase (c : Channel) (r : Regs) :
    chan c (timerPhase r) = countdownChan (mayToggle c r) (chan c r) := by
  cases c
  · rw [timerPhase, chan_countdown_other .mag .led _ (by decide), chan_countdown_same]
  · rw [timerPhase, chan_countdown_same, mayToggle_countdown_other .led .mag r (by decide),
      chan_countdown_other .led .mag r (by decide)]

theorem timerPhase_led (r : Regs) : (timerPhase r).led = countdownChan (mayToggle .led r) r.led :=
  chan_timerPhase .led r

theorem timerPhase_mag (r : Regs) : (timerPhase r).mag = countdownChan (mayToggle .mag r) r.mag :=
  chan_timerPhase .mag r

@[simp] theorem enEff_timerPhase (d : Channel) (r : Regs) : enEff d (timerPhase r) = enEff d r := by
  simp [timerPhase]

@[simp] theorem timerPhase_now (r : Regs) : (timerPhase r).now = r.now := by
  simp [timerPhase]

@[simp] theorem timerPhase_en (r : Regs) : (timerPhase r).en = r.en := by
  simp [timerPhase]

@[simp] theorem timerPhase_magOvr (r : Regs) : (timerPhase r).magOvr = r.magOvr := by
  simp [timerPhase]

@[simp] theorem timerPhase_mode (r : Regs) : (timerPhase r).mode = r.mode := by
  simp [timerPhase]

@[simp] theorem timerPhase_runSince (r : Regs) : (timerPhase r).runSince = r.runSince := by
  simp [timerPhase]

@[simp] theorem timerPhase_btnPrev (r : Regs) : (timerPhase r).btnPrev = r.btnPrev := by
  simp [timerPhase]

@[simp] theorem timerPhase_lastAccept (r : Regs) : (timerPhase r).lastAccept = r.lastAccept := by
  simp [timerPhase]

@[simp] theorem timerPhase_lastValid (r : Regs) : (timerPhase r).lastValid = r.lastValid := by
  simp [timerPhase]

@[simp] theorem timerPhase_stgLedFreq (r : Regs) : (timerPhase r).stgLedFreq = r.stgLedFreq := by
  simp [timerPhase]

@[simp] theorem timerPhase_stgLedDuty (r : Regs) : (timerPhase r).stgLedDuty = r.stgLedDuty := by
  simp [timerPhase]

@[simp] theorem timerPhase_stgMagFreq (r : Regs) : (timerPhase r).stgMagFreq = r.stgMagFreq := by
  simp [timerPhase]

@[simp] theorem timerPhase_stgMagDuty (r : Regs) : (timerPhase r).stgMagDuty = r.stgMagDuty := by
  simp [timerPhase]

@[simp] theorem timerPhase_reject (r : Regs) : (timerPhase r).reject = r.reject := by
  simp [timerPhase]

@[simp] theorem timerPhase_saveReq (r : Regs) : (timerPhase r).saveReq = r.saveReq := by
  simp [timerPhase]

/-! ### What a countdown leaves of its own channel -/

@[simp] theorem countdownChan_freq (b : Bool) (x : ChannelRegs) : (countdownChan b x).freq = x.freq := by
  unfold countdownChan toggled; split <;> (try split) <;> (try split) <;> rfl

@[simp] theorem countdownChan_duty (b : Bool) (x : ChannelRegs) : (countdownChan b x).duty = x.duty := by
  unfold countdownChan toggled; split <;> (try split) <;> (try split) <;> rfl

@[simp] theorem countdownChan_highUs (b : Bool) (x : ChannelRegs) : (countdownChan b x).highUs = x.highUs := by
  unfold countdownChan toggled; split <;> (try split) <;> (try split) <;> rfl

@[simp] theorem countdownChan_lowUs (b : Bool) (x : ChannelRegs) : (countdownChan b x).lowUs = x.lowUs := by
  unfold countdownChan toggled; split <;> (try split) <;> (try split) <;> rfl

@[simp] theorem countdownChan_armed (b : Bool) (x : ChannelRegs) : (countdownChan b x).armed = x.armed := by
  unfold countdownChan toggled; split <;> (try split) <;> (try split) <;> rfl

@[simp] theorem countdownChan_fail (b : Bool) (x : ChannelRegs) : (countdownChan b x).fail = x.fail := by
  unfold countdownChan toggled; split <;> (try split) <;> (try split) <;> rfl

theorem countdownChan_idle (b : Bool) (x : ChannelRegs) (h : x.cnt = 0) : countdownChan b x = x := by
  simp [countdownChan, h]

theorem countdownChan_counting (b : Bool) (x : ChannelRegs) (h : 2 ≤ x.cnt.toNat) :
    countdownChan b x = { x with cnt := x.cnt - 1 } := by
  have h0 : x.cnt ≠ 0 := by intro e; simp [e] at h
  have h1 : x.cnt ≠ 1 := by intro e; simp [e] at h
  rw [countdownChan, if_neg h0, if_neg h1]

theorem countdownChan_expiry (x : ChannelRegs) (h : x.cnt = 1) : countdownChan true x = toggled x := by
  simp [countdownChan, h]

theorem countdownChan_guarded (x : ChannelRegs) (h : x.cnt = 1) : countdownChan false x = { x with cnt := 0 } := by
  simp [countdownChan, h]

end Sys2Proof.Machine
end

