-- ==== Sys2Proof/Laws/PerInstr.lean ====
section
/-! SUPPORT. One lemma per transaction: the three fields of its word (R55, R58), the ignored ones 0 as R62 writes
them. -/

namespace Sys2Proof.Laws.Fields

/-- The `op` column of R58. -/
def op : Instr → BitVec 2
  | .nop => 0
  | .rd _ => 1
  | .cmdApply | .cmdDefaults | .cmdRsvd _ => 2
  | .wrStgLedFreq _ | .wrStgLedDuty _ | .wrStgMagFreq _ | .wrStgMagDuty _ | .wrIgn _ _ => 2
  | .rsvd3 => 3

/-- The `addr` column of R58, an ignored address 0. -/
def address : Instr → Addr
  | .nop | .rsvd3 => 0
  | .rd a => a.addr
  | .cmdApply | .cmdDefaults | .cmdRsvd _ => 0
  | .wrStgLedFreq _ => 2
  | .wrStgLedDuty _ => 3
  | .wrStgMagFreq _ => 4
  | .wrStgMagDuty _ => 5
  | .wrIgn a _ => a.addr

/-- The `data` column of R58, ignored data 0. -/
def data : Instr → U32
  | .nop | .rd _ | .rsvd3 => 0
  | .cmdApply => 1
  | .cmdDefaults => 2
  | .cmdRsvd v => v
  | .wrStgLedFreq v | .wrStgLedDuty v | .wrStgMagFreq v | .wrStgMagDuty v | .wrIgn _ v => v

/-- The word of a transaction has the fields of its row of R58. -/
def Statement (i : Instr) : Prop :=
  opField (encode i) = op i ∧ addrField (encode i) = address i ∧ dataField (encode i) = data i

/-- A word built from three fields has those fields. -/
theorem of_word (o : BitVec 2) (a : Addr) (v : U32) :
    opField (txnWord o a v) = o ∧ addrField (txnWord o a v) = a ∧ dataField (txnWord o a v) = v := by simp

theorem nop : Statement .nop := of_word 0 0 0

theorem rd (a : RegName) : Statement (.rd a) := of_word 1 a.addr 0

theorem cmdApply : Statement .cmdApply := of_word 2 0 1

theorem cmdDefaults : Statement .cmdDefaults := of_word 2 0 2

theorem cmdRsvd (v : U32) : Statement (.cmdRsvd v) := of_word 2 0 v

theorem wrStgLedFreq (v : U32) : Statement (.wrStgLedFreq v) := of_word 2 2 v

theorem wrStgLedDuty (v : U32) : Statement (.wrStgLedDuty v) := of_word 2 3 v

theorem wrStgMagFreq (v : U32) : Statement (.wrStgMagFreq v) := of_word 2 4 v

theorem wrStgMagDuty (v : U32) : Statement (.wrStgMagDuty v) := of_word 2 5 v

theorem wrIgn (a : RegName) (v : U32) : Statement (.wrIgn a v) := of_word 2 a.addr v

theorem rsvd3 : Statement .rsvd3 := of_word 3 0 0

end Sys2Proof.Laws.Fields
end

