-- ==== Sys2Proof/Laws/Reset.lean ====
section
/-! SUPPORT. The reset state, element by element: the two starts at its end write their own channels alone. -/

namespace Sys2Proof.Machine

/-- What `if en_eff(c): start(c)` makes of its channel. -/
def startedIf (enabled : Bool) (x : ChannelRegs) : ChannelRegs :=
  if enabled && !x.fail then { x with level := false, armed := true, cnt := x.lowUs } else x

theorem startIfEnabled_eq_setChan (c : Channel) (r : Regs) :
    startIfEnabled c r = setChan c (startedIf (enEff c r) (chan c r)) r := by
  unfold startIfEnabled startedIf
  cases he : enEff c r
  · exact (regs_eq_setChan c r).symm
  · rw [start_eq_setChan]
    cases hf : (chan c r).fail <;> simp [hf]

/-- The reset state before the two starts of R167. -/
def resetUnstarted (p : Params) (f : Straps) : Regs :=
  syncStaging (resetIntervals (resetMode p (resetFailures f (resetBase p))))

theorem resetRegs_eq (p : Params) (f : Straps) :
    resetRegs p f =
      { resetUnstarted p f with
        led := startedIf (enEff .led (resetUnstarted p f)) (resetUnstarted p f).led
        mag := startedIf (enEff .mag (resetUnstarted p f)) (resetUnstarted p f).mag } := by
  have h : resetRegs p f = startIfEnabled .mag (startIfEnabled .led (resetUnstarted p f)) := rfl
  rw [h, startIfEnabled_eq_setChan .mag, startIfEnabled_eq_setChan .led]
  rfl

/-- The reset state before the starts, each element as R167 assigns it. -/
theorem resetUnstarted_eq (p : Params) (f : Straps) :
    resetUnstarted p f =
      { resetBase p with
        mode := if p.legacyModes then modeOfReset p.modeReset else .off
        en := if p.legacyModes then p.modeReset != .allOff else p.enReset
        magOvr := if p.legacyModes then p.modeReset != .run else false
        led := withIntervals { haltedChannel p.defLedFreq p.defLedDuty with fail := f.led }
        mag := withIntervals { haltedChannel
          (if p.legacyModes && p.modeReset == .run then p.magBaseFreq else p.defMagFreq) p.defMagDuty
          with fail := f.mag }
        stgLedFreq := zext32 p.defLedFreq
        stgLedDuty := zext32 p.defLedDuty
        stgMagFreq := zext32 (if p.legacyModes && p.modeReset == .run then p.magBaseFreq else p.defMagFreq)
        stgMagDuty := zext32 p.defMagDuty } := by
  obtain ⟨fl, fm⟩ := f
  cases hl : p.legacyModes <;> cases hm : p.modeReset <;> cases fl <;> cases fm <;>
    simp [resetUnstarted, resetMode, resetFailures, hl, hm] <;> rfl

@[simp] theorem resetRegs_now (p : Params) (f : Straps) : (resetRegs p f).now = 0 := by
  rw [resetRegs_eq, resetUnstarted_eq]; rfl

@[simp] theorem resetRegs_runSince (p : Params) (f : Straps) : (resetRegs p f).runSince = 0 := by
  rw [resetRegs_eq, resetUnstarted_eq]; rfl

@[simp] theorem resetRegs_btnPrev (p : Params) (f : Straps) : (resetRegs p f).btnPrev = false := by
  rw [resetRegs_eq, resetUnstarted_eq]; rfl

@[simp] theorem resetRegs_lastAccept (p : Params) (f : Straps) : (resetRegs p f).lastAccept = 0 := by
  rw [resetRegs_eq, resetUnstarted_eq]; rfl

@[simp] theorem resetRegs_lastValid (p : Params) (f : Straps) : (resetRegs p f).lastValid = false := by
  rw [resetRegs_eq, resetUnstarted_eq]; rfl

@[simp] theorem resetRegs_reject (p : Params) (f : Straps) : (resetRegs p f).reject = false := by
  rw [resetRegs_eq, resetUnstarted_eq]; rfl

@[simp] theorem resetRegs_saveReq (p : Params) (f : Straps) : (resetRegs p f).saveReq = false := by
  rw [resetRegs_eq, resetUnstarted_eq]; rfl

end Sys2Proof.Machine
end

