-- ==== Sys2Proof/Laws/Step.lean ====
section
/-! SUPPORT. What one step can do, said once: a reset tick, or the phases around the transaction's own effect on the
registers. -/

namespace Sys2Proof.Machine

/-- The effect of a transaction on the registers (43_host_ops.md), apart from `rdata`. -/
def hostRegs (p : Params) (i : Instr) (r : Regs) : Regs :=
  match i with
  | .nop => r
  | .rd _ => r
  | .cmdApply => applyStaged r
  | .cmdDefaults => applyDefaults p r
  | .cmdRsvd _ => r
  | .wrStgLedFreq v => { r with stgLedFreq := v }
  | .wrStgLedDuty v => { r with stgLedDuty := v }
  | .wrStgMagFreq v => { r with stgMagFreq := v }
  | .wrStgMagDuty v => { r with stgMagDuty := v }
  | .wrIgn _ _ => r
  | .rsvd3 => r

/-- What a transaction drives on `rdata` (R26). -/
def readData (i : Instr) (view : Regs) : U32 :=
  match i with
  | .rd a => memRead a view
  | .nop | .cmdApply | .cmdDefaults | .cmdRsvd _ | .wrStgLedFreq _ | .wrStgLedDuty _ => 0
  | .wrStgMagFreq _ | .wrStgMagDuty _ | .wrIgn _ _ | .rsvd3 => 0

/-- Every transaction answers a next state: its registers, its `rdata`, and nothing else. -/
theorem exec_eq (i : Instr) (s : State) :
    exec i s = .next { s with regs := hostRegs s.params i s.regs, rdata := readData i (readView s) } := by
  cases i <;> rfl

/-- What P3 never writes (R31): everything but the staging registers, the codes and intervals, `REJECT` and
`SAVE_REQ`. -/
theorem hostRegs_frame (p : Params) (i : Instr) (r : Regs) :
    (∀ c, (chan c (hostRegs p i r)).cnt = (chan c r).cnt ∧ (chan c (hostRegs p i r)).level = (chan c r).level ∧
      (chan c (hostRegs p i r)).armed = (chan c r).armed ∧ (chan c (hostRegs p i r)).fail = (chan c r).fail) ∧
    (hostRegs p i r).now = r.now ∧ (hostRegs p i r).en = r.en ∧ (hostRegs p i r).magOvr = r.magOvr ∧
    (hostRegs p i r).mode = r.mode ∧ (hostRegs p i r).runSince = r.runSince ∧
    (hostRegs p i r).btnPrev = r.btnPrev ∧ (hostRegs p i r).lastAccept = r.lastAccept ∧
    (hostRegs p i r).lastValid = r.lastValid := by
  cases i
  case cmdApply => exact install_frame _ _ _ _ r
  case cmdDefaults => exact install_frame _ _ _ _ r
  all_goals
    refine ⟨fun c => ?_, rfl, rfl, rfl, rfl, rfl, rfl, rfl, rfl⟩
    cases c <;> exact ⟨rfl, rfl, rfl, rfl⟩

/-- The state after a tick that is no reset tick. -/
def afterTick (s : State) : State :=
  { s with
    regs := regsAfterHost s.params
      (hostRegs s.params (comingTxn s) (regsBeforeHost s.params (nextInput s).pins.btn s.regs))
    latch := none
    rdata := readData (comingTxn s) s.regs
    pins := (nextInput s).pins
    inputs := s.inputs.tail }

/-- One step, said once. -/
theorem step_eq (s : State) :
    step s = .next (if isResetTick s then resetTick (takeInput s) else afterTick s) := by
  unfold step isResetTick
  cases h : (nextInput s).pins.rst
  · simp only [takeInput_pins, h, exec_eq]; rfl
  · simp only [takeInput_pins, h]; rfl

theorem step_reset (s : State) (h : isResetTick s = true) : step s = .next (resetTick (takeInput s)) := by
  simp [step_eq, h]

theorem step_tick (s : State) (h : isResetTick s = false) : step s = .next (afterTick s) := by
  simp [step_eq, h]

end Sys2Proof.Machine
end

