-- ==== Sys2Proof/Machine/Stimulus.lean ====
section
/-! DEFINITION. The stimulus language of R62 and R63 as syntax trees, and its expansion into the inputs of ticks. The
text itself (spelling, labels, comments) is not modelled (log 9). -/

namespace Sys2Proof.Machine

/-- A `txn` of R62: one tick. -/
inductive Txn where
  | nop
  | rd (r : RegName)
  | wr (r : RegName) (v : U32)
  | cmdApply
  | cmdDefaults
  | cmd (v : U32)
  | rsvd3
  deriving DecidableEq, Repr

/-- The word of a `txn` line (R62): `CMD APPLY` is `WR 0, 1`, `CMD DEFAULTS` is `WR 0, 2`, `CMD v` is `WR 0, v`. -/
def Txn.word : Txn → TxnWord
  | .nop => txnWord 0 0 0
  | .rd r => txnWord 1 r.addr 0
  | .wr r v => txnWord 2 r.addr v
  | .cmdApply => txnWord 2 0 1
  | .cmdDefaults => txnWord 2 0 2
  | .cmd v => txnWord 2 0 v
  | .rsvd3 => txnWord 3 0 0

/-- A line of R62: a tick, or a directive, which takes no tick and sets a pin level from the next tick line on. -/
inductive StimulusLine where
  | tick (t : Txn)
  | btn (level : Bool)
  | rst (level : Bool)
  | fail (led mag : Bool)
  /-- `.at n`: the next tick line is tick number `n`. -/
  | atTick (n : Nat)
  deriving DecidableEq, Repr

/-! ### Pseudo-instructions (R63) -/

/-- `WAIT n`. -/
def waitTicks (n : Nat) : List StimulusLine := List.replicate n (.tick .nop)

/-- `PRESS k`: the button is low for `k` ticks. R63 gives it for `k ≥ 1` only; the model expands `PRESS 0` by the same
pattern, to two directives and no tick, which is no press (DESIGN CHOICE, log 14). -/
def press (k : Nat) : List StimulusLine := [.btn false] ++ waitTicks k ++ [.btn true]

/-- `SETALL lf, ld, mf, md`: the document's `applySettings`. -/
def setAll (lf ld mf md : U32) : List StimulusLine :=
  [ .tick (.wr .stgLedFreq lf), .tick (.wr .stgLedDuty ld), .tick (.wr .stgMagFreq mf),
    .tick (.wr .stgMagDuty md), .tick .cmdApply ]

/-- `GETALL`: the document's `getSettings`. -/
def getAll : List StimulusLine :=
  [ .tick (.rd .ledFreq), .tick (.rd .ledDuty), .tick (.rd .magFreq), .tick (.rd .magDuty), .tick (.rd .status) ]

/-- `RESET`: one tick of reset. -/
def resetLines : List StimulusLine := [.rst true, .tick .nop, .rst false]

/-! ### Expansion -/

/-- A failed `.at` assertion: the number it asserts and the number of the next tick line. -/
structure TickMismatch where
  asserted : Nat
  actual : Nat
  deriving DecidableEq, Repr

/-- The inputs of the ticks of a stimulus, from the pin levels in force and the number of the next tick line (R62).
After a reset tick the next tick line is tick 0 (R63, R143). A directive sets a level "from the next tick line on": one
that no tick line follows (the `.btn 1` of a last `PRESS`, the `.rst 0` of a last `RESET`) sets nothing, and R62 and R63
do not say what levels ticks past the end of the stimulus have. The model drops it, so that such ticks keep the levels of
the last tick line (DESIGN CHOICE, log 13). -/
def expandFrom : Pins → Nat → List StimulusLine → Except TickMismatch (List TickInput)
  | _, _, [] => .ok []
  | p, n, .tick t :: rest =>
    match expandFrom p (if p.rst then 0 else n + 1) rest with
    | .ok l => .ok (⟨p, t.word⟩ :: l)
    | .error e => .error e
  | p, n, .btn b :: rest => expandFrom { p with btn := b } n rest
  | p, n, .rst b :: rest => expandFrom { p with rst := b } n rest
  | p, n, .fail a b :: rest => expandFrom { p with initFail := ⟨a, b⟩ } n rest
  | p, n, .atTick k :: rest => if k = n then expandFrom p n rest else .error ⟨k, n⟩

/-- "At the start of a stimulus `.btn` is 1, `.rst` is 0 and `.fail` is `0, 0`", and its first tick line is tick 0
(R62). -/
def expand (lines : List StimulusLine) : Except TickMismatch (List TickInput) := expandFrom Pins.atStart 0 lines

/-- A state with a stimulus's inputs as those of its coming ticks; the state is unchanged where an `.at` fails. -/
def withStimulus (lines : List StimulusLine) (s : State) : State :=
  match expand lines with
  | .ok l => { s with inputs := l }
  | .error _ => s

end Sys2Proof.Machine
end

