-- ==== Sys2Proof/Tests/Slice0.lean ====
section
/-! SUPPORT. The model's own tests. Every expected value is of spec/: its test vectors (95_test_vectors.md, named by
their ids) or a rule. Then the witnesses: for every obligation with hypotheses, a state and operands that meet them. -/

namespace Sys2Proof.Tests

open Sys2Proof.Machine

/-! ### Ill-formed transactions are refused by `Instr.wellFormed` -/

theorem test_wf_reserved_is_not_apply : (Instr.cmdRsvd 1).wellFormed = false := by decide

theorem test_wf_reserved_is_not_defaults : (Instr.cmdRsvd 2).wellFormed = false := by decide

theorem test_wf_ignored_is_not_cmd : (Instr.wrIgn .cmd 7).wellFormed = false := by decide

theorem test_wf_ignored_is_not_staging :
    [RegName.stgLedFreq, .stgLedDuty, .stgMagFreq, .stgMagDuty].all
      (fun a => !(Instr.wrIgn a 7).wellFormed) = true := by decide

theorem test_wf_accepts :
    (Instr.cmdRsvd 0).wellFormed = true ∧ (Instr.cmdRsvd 0xFFFFFFFF).wellFormed = true ∧
    (Instr.wrIgn .status 0).wellFormed = true ∧ (Instr.wrIgn .rsvd15 7).wellFormed = true := by decide

/-! ### Decoding, words written out from R55 and R58 -/

theorem test_decode_nop_with_ignored_bits : decode 0b00_1111_11111111111111111111111111111111#38 = .nop := by decide

theorem test_decode_rd : decode 0b01_1010_00000000000000000000000000000000#38 = .rd .ledHighUs := by decide

theorem test_decode_cmdApply : decode 0b10_0000_00000000000000000000000000000001#38 = .cmdApply := by decide

theorem test_decode_cmdDefaults : decode 0b10_0000_00000000000000000000000000000010#38 = .cmdDefaults := by decide

theorem test_decode_cmdRsvd : decode 0b10_0000_10000000000000000000000000000001#38 = .cmdRsvd 0x80000001 := by decide

theorem test_decode_wrStgLedFreq :
    decode 0b10_0010_00000000000000000000001100100101#38 = .wrStgLedFreq 805 := by decide

theorem test_decode_wrStgLedDuty :
    decode 0b10_0011_00000000000000000000001110000100#38 = .wrStgLedDuty 900 := by decide

theorem test_decode_wrStgMagFreq :
    decode 0b10_0100_00000000000000000000001100011110#38 = .wrStgMagFreq 798 := by decide

theorem test_decode_wrStgMagDuty :
    decode 0b10_0101_00000000000000000000000111110100#38 = .wrStgMagDuty 500 := by decide

/-- One word of each of the three table rows of `WR.IGN`. -/
theorem test_decode_wrIgn :
    decode 0b10_0001_11111111111111111111111111111111#38 = .wrIgn .status 0xFFFFFFFF ∧
    decode 0b10_0110_00000000000000000000000000000001#38 = .wrIgn .ledFreq 1 ∧
    decode 0b10_1111_00000000000000000000000000000111#38 = .wrIgn .rsvd15 7 := by decide

theorem test_decode_rsvd3 :
    decode 0b11_0000_00000000000000000000000000000000#38 = .rsvd3 ∧ decode 0x3FFFFFFFFF#38 = .rsvd3 := by decide

theorem test_decode_number : decodeTableWord 40 0x2000000001 = some .cmdApply ∧
    decodeTableWord 40 0x4000000000 = none := by decide

/-! ### The calculator (VC1 to VC37) -/

theorem test_valid : valid 0 500 = false ∧ valid 65536 500 = false ∧ valid 805 0 = false ∧ valid 805 1000 = false ∧
    valid 1 1 = true ∧ valid 65535 999 = true ∧ valid 0x00010325 500 = false := by decide

theorem test_calc_examples : calcPair 805 500 = ⟨6211, 6211⟩ ∧ calcPair 798 500 = ⟨6266, 6265⟩ ∧
    calcPair 805 900 = ⟨11180, 1242⟩ ∧ calcPair 1500 500 = ⟨3334, 3333⟩ ∧ calcPair 1234 567 = ⟨4595, 3509⟩ := by decide

theorem test_calc_ties : calcPair 256 500 = ⟨19532, 19531⟩ ∧ calcPair 32768 500 = ⟨153, 152⟩ ∧
    calcPair 40000 2 = ⟨1, 249⟩ ∧ calcPair 800 1 = ⟨13, 12487⟩ ∧ calcPair 800 999 = ⟨12488, 12⟩ := by decide

theorem test_calc_clamps : calcPair 65535 1 = ⟨1, 152⟩ ∧ calcPair 65535 999 = ⟨152, 1⟩ ∧
    calcPair 40000 998 = ⟨249, 1⟩ ∧ calcPair 20000 999 = ⟨499, 1⟩ ∧ calcPair 20040 1 = ⟨1, 498⟩ ∧
    calcPair 1 999 = ⟨9990000, 10000⟩ := by decide

/-! ### Small states -/

/-- A state between two ticks whose coming tick carries `btn` and the word `w`. -/
def between (p : Params) (r : Regs) (btn : Bool) (w : TxnWord) : State where
  params := p
  regs := r
  latch := none
  rdata := 0
  pins := Pins.atStart
  inputs := [⟨{ Pins.atStart with btn := btn }, w⟩]

/-- The state after one tick. -/
def after (s : State) : Option State :=
  match step s with
  | .next t => some t
  | .fault _ => none
  | .refused _ => none

/-- The default `S(0)` of 95_test_vectors.md, with the button seen released. -/
def r0 : Regs := { State.reset.regs with btnPrev := true }

/-- Both counts as given, both channels else as in `r0`. -/
def withCounts (led mag : U32) (r : Regs) : Regs :=
  { r with led := { r.led with cnt := led }, mag := { r.mag with cnt := mag } }

/-- The LED channel in a one-tick vector of section 2.2. -/
def led (level : Bool) (cnt : U32) (r : Regs) : Regs := { r with led := { r.led with level := level, cnt := cnt } }

/-- Both channels stopped and the device disabled. -/
def disabled (ledCnt magCnt : U32) : Regs :=
  { r0 with
    en := false
    led := { r0.led with armed := false, cnt := ledCnt }
    mag := { r0.mag with armed := false, cnt := magCnt } }

/-- The legacy variant with a reset mode and the base frequency of VM2. -/
def legacy (m : ResetMode) : Params :=
  { Params.default with legacyModes := true, modeReset := m, magBaseFreq := 800, idleTimeoutUs := 30000 }

/-- What the one-tick vectors show of the LED channel. -/
def ledView (t : State) : Bool × Bool × U32 := (t.regs.led.level, t.regs.led.armed, t.regs.led.cnt)

/-- `LEVEL`, `ARMED`, `CNT` of both channels and `STATUS`. -/
def view (t : State) : (Bool × Bool) × (Bool × Bool) × (U32 × U32) × U32 :=
  ((t.regs.led.level, t.regs.mag.level), (t.regs.led.armed, t.regs.mag.armed), (t.regs.led.cnt, t.regs.mag.cnt),
    statusWord t.regs)

/-! ### The oscillator (VO2 to VO13) -/

theorem test_VO2_VO3 :
    (after (between .default (led false 5 r0) true 0)).map ledView = some (false, true, 4) ∧
    (after (between .default (led false 2 r0) true 0)).map ledView = some (false, true, 1) := by decide

theorem test_VO4_VO5 :
    (after (between .default (led false 1 r0) true 0)).map ledView = some (true, true, 6211) ∧
    (after (between .default (led true 1 r0) true 0)).map ledView = some (false, true, 6211) := by decide

theorem test_VO6_VO7 :
    (after (between .default (disabled 1 0) true 0)).map ledView = some (false, false, 0) ∧
    (after (between .default (disabled 7 0) true 0)).map ledView = some (false, false, 6) := by decide

theorem test_VO10_VO11 : statusWord State.reset.regs = 0x19 ∧
    (after State.reset).map view = some ((false, false), (true, true), (6210, 6264), 0x19) := by decide

/-- VO12 to VO13. -/
theorem test_VO13 : (after (between .default (withCounts 1 55 r0) true 0)).map view =
    some ((true, false), (true, true), (6211, 54), 0x1B) := by decide

/-- R81. -/
theorem test_oscState : oscState r0.led = .low ∧ oscState (led true 5 r0).led = .high ∧
    oscState (disabled 5 0).led = .halted := by decide

/-- R28, with two magnet lines. -/
theorem test_outputs :
    let r : Regs := { r0 with mag := { r0.mag with level := true }, saveReq := true }
    outputs (between { Params.default with nMag := 2 } r true 0x1800000000) = ⟨false, [true, true], true, 798⟩ := by decide

/-! ### The button (VB2 to VB5) -/

/-- VB2: the first edge is accepted, at tick 1000. -/
theorem test_VB2 :
    let s := between .default { withCounts 5211 5265 r0 with now := 1000 } false 0
    (after s).map view = some ((false, false), (false, false), (5210, 5264), 0) ∧
    (after s).map (fun t => (t.regs.en, t.regs.lastAccept, t.regs.lastValid, t.regs.btnPrev)) =
      some (false, 1000, true, false) := by decide

/-- VB3: a separation of exactly the window is accepted. -/
theorem test_VB3 :
    (after (between .default { disabled 0 0 with lastValid := true, lastAccept := 1000, now := 51000 } false 0)).map
      (fun t => (t.regs.en, t.regs.lastAccept, t.regs.led.cnt, t.regs.mag.cnt)) =
      some (true, 51000, 6211, 6265) := by decide

/-- VB4: one tick less is rejected, and only `BTN_PREV` moves. -/
theorem test_VB4 :
    (after (between .default { disabled 0 0 with lastValid := true, lastAccept := 1000, now := 50999 } false 0)).map
      (fun t => (t.regs.en, t.regs.lastAccept, t.regs.btnPrev)) = some (false, 1000, false) := by decide

/-- VB1: a button held through reset gives no edge at tick 0. -/
theorem test_VB1 : (after (between .default State.reset.regs false 0)).map (fun t => (t.regs.en, t.regs.lastValid)) =
    some (true, false) := by decide

/-! ### Host transactions, one step each (VH1 to VH12, program D) -/

theorem test_nop_step : (after (between .default r0 true 0)).map (fun t => (t.rdata, t.regs.now, t.regs.stgLedFreq)) =
    some (0, 1, 805) := by decide

theorem test_VH1 : (after (between .default State.reset.regs true 0x1100000000)).map (·.rdata) = some 0x19 := by decide

/-- VH2, VH3, VH5. -/
theorem test_rd_codes :
    (after (between .default r0 true 0x1800000000)).map (·.rdata) = some 0x31E ∧
    (after (between .default r0 true 0x1D00000000)).map (·.rdata) = some 0x1879 ∧
    (after (between .default r0 true 0x1E00000000)).map (·.rdata) = some 0 := by decide

/-- R33: the addresses of the live codes and intervals, distinct values in all of them. -/
theorem test_rd_addresses :
    let r : Regs := { r0 with
      led := { r0.led with freq := 6, duty := 7, highUs := 10, lowUs := 11 }
      mag := { r0.mag with freq := 8, duty := 9, highUs := 12, lowUs := 13 } }
    [0x1600000000, 0x1700000000, 0x1800000000, 0x1900000000, 0x1A00000000, 0x1B00000000, 0x1C00000000,
      0x1D00000000].map (fun w => (after (between .default r true w)).map (·.rdata)) =
      [some 6, some 7, some 8, some 9, some 10, some 11, some 12, some 13] := by decide

/-- VH6: staging keeps all 32 bits, the live code stays. -/
theorem test_VH6 : (after (between .default r0 true 0x22FFFFFFFF)).map
    (fun t => (t.regs.stgLedFreq, t.regs.led.freq, t.rdata)) = some (0xFFFFFFFF, 805, 0) := by decide

theorem test_wrStgLedDuty : (after (between .default r0 true 0x2300000384)).map
    (fun t => (t.regs.stgLedFreq, t.regs.stgLedDuty, t.regs.stgMagFreq, t.regs.stgMagDuty)) =
      some (805, 900, 798, 500) := by decide

theorem test_wrStgMagFreq : (after (between .default r0 true 0x2400000000)).map
    (fun t => (t.regs.stgLedFreq, t.regs.stgLedDuty, t.regs.stgMagFreq, t.regs.stgMagDuty)) =
      some (805, 500, 0, 500) := by decide

theorem test_wrStgMagDuty : (after (between .default r0 true 0x25000000FA)).map
    (fun t => (t.regs.stgLedFreq, t.regs.stgLedDuty, t.regs.stgMagFreq, t.regs.stgMagDuty)) =
      some (805, 500, 798, 250) := by decide

/-- VH7: a code above 16 bits is rejected, staging goes back. -/
theorem test_VH7 : (after (between .default { r0 with stgLedFreq := 0x00010325 } true 0x2000000001)).map
    (fun t => (statusWord t.regs, t.regs.stgLedFreq, t.regs.led.freq)) = some (0x99, 805, 805) := by decide

/-- Program B, tick 101: accepted; the counts go on. -/
theorem test_cmdApply_accepts :
    (after (between .default { withCounts 6110 6164 r0 with stgLedDuty := 900 } true 0x2000000001)).map
      (fun t => (statusWord t.regs, t.regs.led.duty, t.regs.led.highUs, t.regs.led.lowUs, t.regs.led.cnt,
        t.regs.mag.highUs)) = some (0x219, 900, 11180, 1242, 6109, 6266) := by decide

/-- Program D, tick 15. -/
theorem test_cmdDefaults :
    (after (between .default { r0 with reject := true, stgLedFreq := 0x00010325 } true 0x2000000002)).map
      (fun t => (statusWord t.regs, t.regs.stgLedFreq, t.regs.led.freq)) = some (0x219, 805, 805) := by decide

/-- VH8: no effect, and `REJECT` is not touched. -/
theorem test_ignored : [0x21FFFFFFFF, 0x2600000001, 0x2F00000007, 0x2000000003, 0x2000000000, 0x3000000000,
    0x3FFFFFFFFF].all (fun w => (after (between .default { r0 with reject := true } true w)).map (fun t => (t.regs, t.rdata)) ==
      (after (between .default { r0 with reject := true } true 0)).map (fun t => (t.regs, t.rdata))) = true := by decide

/-! ### Reset (VM1 to VM4, VE3, VE4) -/

theorem test_VM2 : (resetRegs (legacy .run) ⟨false, false⟩).mag.freq = 800 ∧
    (resetRegs (legacy .run) ⟨false, false⟩).mag.cnt = 6250 ∧
    statusWord (resetRegs (legacy .run) ⟨false, false⟩) = 0x419 := by decide

theorem test_VM3_VM4 : (resetRegs (legacy .magnetOff) ⟨false, false⟩).mag.freq = 798 ∧
    statusWord (resetRegs (legacy .magnetOff) ⟨false, false⟩) = 0x909 ∧
    statusWord (resetRegs (legacy .allOff) ⟨false, false⟩) = 0xD00 := by decide

theorem test_VE3_VE4 : statusWord (resetRegs .default ⟨true, true⟩) = 0x61 ∧
    statusWord (resetRegs .default ⟨false, true⟩) = 0x49 ∧
    statusWord (resetRegs { Params.default with enReset := false } ⟨false, false⟩) = 0 := by decide

/-! ### The mode sequencer (VM5, VM7, program E) -/

/-- Program E, tick 1000 and tick 60000: the first two transitions. -/
theorem test_modes_off :
    (after (between (legacy .run)
      { withCounts 5211 5265 (resetRegs (legacy .run) ⟨false, false⟩) with btnPrev := true, now := 1000 } false 0)).map
      view = some ((false, false), (true, false), (5210, 5264), 0x909) ∧
    (after (between (legacy .magnetOff)
      { resetRegs (legacy .magnetOff) ⟨false, false⟩ with btnPrev := true, now := 60000 } false 0)).map
      view = some ((false, false), (false, false), (6210, 0), 0xD00) := by decide

/-- VM5: the idle timeout at an elapsed time of exactly 30000, and not one tick before. -/
theorem test_VM5 :
    (after (between (legacy .run)
      { withCounts 1055 1327 (resetRegs (legacy .run) ⟨false, false⟩) with now := 30000 } true 0)).map
      view = some ((false, false), (false, false), (1054, 1326), 0xD00) ∧
    (after (between (legacy .run)
      { withCounts 1055 1327 (resetRegs (legacy .run) ⟨false, false⟩) with now := 29999 } true 0)).map
      view = some ((false, false), (true, true), (1054, 1326), 0x419) := by decide

/-- VM7: an accepted edge in that tick acts first. -/
theorem test_VM7 :
    (after (between (legacy .run)
      { resetRegs (legacy .run) ⟨false, false⟩ with btnPrev := true, now := 30000 } false 0)).map
      (fun t => statusWord t.regs) = some 0x909 := by decide

/-! ### Coincidences (VX1, VX2, VX3, VX6, VX7, VX10) -/

/-- VX1: disable and expiry. -/
theorem test_VX1 : (after (between .default (withCounts 1 55 r0) false 0)).map view =
    some ((false, false), (false, false), (6211, 54), 0) := by decide

/-- VX2: install and expiry. -/
theorem test_VX2 :
    let s := between .default { withCounts 1 55 r0 with stgLedDuty := 900 } true 0x2000000001
    (after s).map view = some ((true, false), (true, true), (6211, 54), 0x21B) ∧
    (after s).map (fun t => (t.regs.led.highUs, t.regs.led.lowUs)) = some (11180, 1242) := by decide

/-- VX3: enable and install. -/
theorem test_VX3 :
    (after (between .default { disabled 0 0 with stgLedDuty := 900, now := 20 } false 0x2000000001)).map
      (fun t => (t.regs.led.cnt, t.regs.led.lowUs, statusWord t.regs)) = some (6211, 1242, 0x219) := by decide

/-- VX6 and VX7: an entry to RUN with a staging write, and with an install. -/
theorem test_VX6_VX7 :
    let r : Regs := { resetRegs (legacy .allOff) ⟨false, false⟩ with btnPrev := true, now := 5 }
    (after (between (legacy .allOff) r false 0x2400000384)).map
      (fun t => (t.regs.stgMagFreq, t.regs.mag.freq, t.regs.mag.cnt, statusWord t.regs)) =
        some (900, 800, 6250, 0x419) ∧
    (after (between (legacy .allOff) { r with stgMagFreq := 900 } false 0x2000000001)).map
      (fun t => (t.regs.stgMagFreq, t.regs.mag.freq, t.regs.mag.cnt, statusWord t.regs)) =
        some (800, 800, 6250, 0x619) := by decide

/-- The host's reading of a table row, presented as the first transaction after reset. -/
theorem test_first_transaction :
    (after (State.reset.withFetchWord 40 0x2000000001)).map (fun t => (t.regs.saveReq, t.regs.now)) = some (true, 1) ∧
    (after (State.reset.withFetchWord 40 0x1100000000)).map (·.rdata) = some 0x19 := by decide

/-- A reset tick with a falling edge, `CMD.APPLY` and the straps 0, 1. -/
def resetting : State :=
  { between .default { r0 with now := 7, reject := true } false 0 with
    inputs := [⟨⟨true, ⟨false, true⟩, false⟩, 0x2000000001⟩] }

/-- VX10, program F. -/
theorem test_VX10 : (after resetting).map (fun t => (t.regs.now, statusWord t.regs, t.rdata)) =
    some (0, 0x49, 0) := by decide

/-! ### Stimulus text (R62, R63) -/

theorem test_expand_press : expand ([.atTick 0] ++ waitTicks 1 ++ press 2 ++ setAll 805 500 798 500) =
    .ok ([⟨Pins.atStart, 0⟩, ⟨{ Pins.atStart with btn := false }, 0⟩, ⟨{ Pins.atStart with btn := false }, 0⟩] ++
      [⟨Pins.atStart, 0x2200000325⟩, ⟨Pins.atStart, 0x23000001F4⟩, ⟨Pins.atStart, 0x240000031E⟩,
        ⟨Pins.atStart, 0x25000001F4⟩, ⟨Pins.atStart, 0x2000000001⟩]) := by rfl

theorem test_expand_reset : expand ([.fail false true] ++ resetLines ++ [.atTick 0, .tick (.rd .status)]) =
    .ok [⟨⟨true, ⟨false, true⟩, true⟩, 0⟩, ⟨⟨false, ⟨false, true⟩, true⟩, 0x1100000000⟩] ∧
    expand [.tick .nop, .atTick 5] = .error ⟨5, 1⟩ := by decide

/-! ## Witnesses

One theorem, or more, for every obligation with hypotheses: a state and operands that meet them, at a boundary where
the hypothesis has one. -/

/-! ### Good states, tested by evaluation -/

/-- R30 for one channel, as a test. -/
def chanGood (en : Bool) (x : ChannelRegs) : Bool :=
  valid x.freq.toNat x.duty.toNat &&
  (⟨x.highUs, x.lowUs⟩ : IntervalPair) == calcPair x.freq.toNat x.duty.toNat &&
  decide (1 ≤ x.highUs.toNat ∧ 1 ≤ x.lowUs.toNat) &&
  decide (x.highUs.toNat + x.lowUs.toNat = period x.freq.toNat ∧ 153 ≤ x.highUs.toNat + x.lowUs.toNat ∧
    x.highUs.toNat + x.lowUs.toNat ≤ 10000000) &&
  x.armed == (en && !x.fail) &&
  decide (x.armed = true → 1 ≤ x.cnt.toNat) &&
  decide (x.armed = false → x.level = false) &&
  decide (x.cnt.toNat ≤ 10000000 - 1) &&
  decide (x.fail = true → x.cnt = 0)

/-- `GoodState` as a test. -/
def isGood (s : State) : Bool :=
  decide s.params.WellFormed && decide (s.latch = none) &&
  chanGood (enEff .led s.regs) s.regs.led && chanGood (enEff .mag s.regs) s.regs.mag &&
  decide (s.params.legacyModes = false → s.regs.mode = .off ∧ s.regs.magOvr = false ∧ s.regs.runSince = 0) &&
  decide (s.params.legacyModes = true →
    (s.regs.mode = .run ∧ s.regs.en = true ∧ s.regs.magOvr = false) ∨
    (s.regs.mode = .magnetOff ∧ s.regs.en = true ∧ s.regs.magOvr = true) ∨
    (s.regs.mode = .allOff ∧ s.regs.en = false ∧ s.regs.magOvr = true)) &&
  decide (s.regs.lastValid = false → s.regs.lastAccept = 0)

theorem good_of_test (s : State) (h : isGood s = true) : GoodState s := by
  simp only [isGood, chanGood, Bool.and_eq_true, beq_iff_eq, decide_eq_true_eq] at h
  obtain ⟨⟨⟨⟨⟨⟨hp, hl⟩, a⟩, b⟩, m⟩, g⟩, v⟩ := h
  obtain ⟨⟨⟨⟨⟨⟨⟨⟨a1, a2⟩, a3⟩, a4⟩, a5⟩, a6⟩, a7⟩, a8⟩, a9⟩ := a
  obtain ⟨⟨⟨⟨⟨⟨⟨⟨b1, b2⟩, b3⟩, b4⟩, b5⟩, b6⟩, b7⟩, b8⟩, b9⟩ := b
  refine ⟨hp, ⟨?_, ?_, ?_, ?_, ?_, ?_, ?_, ?_, ?_, m, g, v⟩, hl⟩ <;> intro c <;> cases c <;> assumption

/-- Every state steps. -/
theorem steps (s : State) : ∃ t, step s = .next t := ⟨_, step_eq s⟩

/-- A property of the state `k` ticks on, tested by evaluation. -/
theorem of_run (P : State → Bool) (k : Nat) (s : State)
    (h : (match runTicks k s with | .next u => P u | .fault _ => true | .refused _ => true) = true) :
    ∀ u, runTicks k s = .next u → P u = true := by
  intro u hu; rw [hu] at h; exact h

/-! ### Reset, the step, the invariants -/

theorem witness_ResetTickGivesTheResetState : isResetTick resetting = true := by decide

theorem witness_StepRunsTheDecodedTransaction :
    isResetTick (between .default r0 true 0x2000000001) = false ∧
    decode (nextInput (between .default r0 true 0x2000000001)).host = .cmdApply := by decide

theorem witness_WithFetchWordPresentsTheTransaction :
    decodeTableWord 40 0x22FFFFFFFF = some (.wrStgLedFreq 0xFFFFFFFF) ∧ decodeTableWord 40 0x3FFFFFFFFF = some .rsvd3 := by
  decide

/-- A reset tick, and an ordinary tick in which `NOW` wraps. -/
theorem witness_NowCountsTicksSinceReset :
    (isResetTick resetting = true ∧ ∃ t, step resetting = .next t) ∧
    (isResetTick (between .default { r0 with now := 0xFFFFFFFFFFFFFFFF } true 0) = false ∧
      ∃ t, step (between .default { r0 with now := 0xFFFFFFFFFFFFFFFF } true 0) = .next t) :=
  ⟨⟨by decide, steps _⟩, by decide, steps _⟩

theorem witness_ParametersNeverChange : ∃ t, step (between (legacy .run) r0 true 0) = .next t := steps _

theorem witness_EveryResetIsAGoodState : Params.default.WellFormed ∧ (legacy .allOff).WellFormed := by decide

/-- In the canonical variant, and in the legacy variant with a failed channel. -/
theorem witness_EveryStepKeepsTheGoodState :
    (GoodState (between .default r0 false 0x2000000001) ∧
      ∃ t, step (between .default r0 false 0x2000000001) = .next t) ∧
    (GoodState (between (legacy .allOff) (resetRegs (legacy .allOff) ⟨true, false⟩) true 0) ∧
      ∃ t, step (between (legacy .allOff) (resetRegs (legacy .allOff) ⟨true, false⟩) true 0) = .next t) :=
  ⟨⟨good_of_test _ (by decide), steps _⟩, good_of_test _ (by decide), steps _⟩

/-- At the last tick before `NOW` wraps. -/
theorem witness_LastAcceptStaysBeforeNow :
    let s := between .default
      { r0 with lastValid := true, lastAccept := 0xFFFFFFFFFFFFFFFD, now := 0xFFFFFFFFFFFFFFFE } false 0
    acceptedBeforeNow s.regs ∧ s.regs.now.toNat + 1 < 2 ^ 64 ∧ ∃ t, step s = .next t :=
  ⟨fun _ => by decide, by decide, steps _⟩

theorem witness_EveryRunFromResetMeetsR30 :
    Params.default.WellFormed ∧ (legacy .run).WellFormed ∧ 2 ^ 64 - 1 < 2 ^ 64 := by decide

/-! ### The oscillator -/

/-- One channel for each clause: idle; counts 2 and 2^32 - 1; an expiry; a guarded one. -/
theorem witness_CountdownAndExpiry :
    (chan .led (disabled 0 0)).cnt.toNat = 0 ∧
    (2 ≤ (chan .led (disabled 2 0)).cnt.toNat ∧ 2 ≤ (chan .led (disabled 0xFFFFFFFF 0)).cnt.toNat) ∧
    ((chan .mag (withCounts 2 1 r0)).cnt.toNat = 1 ∧ enEff .mag (withCounts 2 1 r0) = true ∧
      (chan .mag (withCounts 2 1 r0)).armed = true ∧ (chan .mag (withCounts 2 1 r0)).fail = false) ∧
    ((chan .led (disabled 1 0)).cnt.toNat = 1 ∧ enEff .led (disabled 1 0) = false) := by decide

theorem witness_StartAndStop :
    (chan .mag (resetRegs .default ⟨false, true⟩)).fail = true ∧ (chan .led r0).fail = false ∧
    ((chan .led (disabled 5 5)).armed = false ∧ (chan .led (disabled 5 5)).level = false) := by decide

/-- An input list run dry, the button released, no mode sequencer. -/
def Quiet (s : State) : Prop :=
  s.inputs = [] ∧ s.pins = Pins.atStart ∧ s.params.legacyModes = false

theorem quiet_step (s t : State) (c : Channel) (h : Quiet s) (hs : step s = .next t) :
    Quiet t ∧ touchesChannel c s = false ∧ isResetTick s = false ∧
    (chan c t.regs).highUs = (chan c s.regs).highUs ∧ (chan c t.regs).lowUs = (chan c s.regs).lowUs ∧
    (chan c t.regs).armed = (chan c s.regs).armed := by
  obtain ⟨h1, h2, h3⟩ := h
  have hi : nextInput s = ⟨Pins.atStart, 0⟩ := by simp [nextInput, h1, h2]
  have hr : isResetTick s = false := by rw [isResetTick, hi]; rfl
  have he : ∀ r : Regs, acceptsEdge s.params (nextInput s).pins.btn r = false := by
    intro r; rw [hi]; simp [acceptsEdge, fallingEdge, Pins.atStart]
  have hc : comingTxn s = .nop := by rw [comingTxn, hi]; rfl
  rw [step_tick s hr] at hs
  cases hs
  have e : ∀ r : Regs, chan c (advanceNow { r with btnPrev := (nextInput s).pins.btn }) = chan c r := by
    intro r; cases c <;> rfl
  have h0 : chan c (clearSaveReq s.regs) = chan c s.regs := by cases c <;> rfl
  have hx : chan c (afterTick s).regs = countdownChan (mayToggle c (clearSaveReq s.regs)) (chan c s.regs) := by
    show chan c (regsAfterHost _ (hostRegs _ (comingTxn s) (regsBeforeHost _ _ _))) = _
    rw [hc, regsAfterHost, idlePhase_quiet _ _ (idleDue_canonical _ _ h3), hostRegs, regsBeforeHost,
      buttonPhase_quiet _ _ _ (he _), e, chan_timerPhase, h0]
  refine ⟨⟨by simp [afterTick, h1], by simp [afterTick, hi], h3⟩, ?_, hr, ?_, ?_, ?_⟩
  · simp [touchesChannel, idleFires, edgeAccepted, he, hr, idleDue_canonical _ _ h3]
  all_goals rw [hx]; simp

theorem quiet_run (k : Nat) (s u : State) (c : Channel) (h : Quiet s) (hu : runTicks k s = .next u) :
    Quiet u ∧ (chan c u.regs).highUs = (chan c s.regs).highUs ∧ (chan c u.regs).lowUs = (chan c s.regs).lowUs ∧
    (chan c u.regs).armed = (chan c s.regs).armed := by
  induction k generalizing s with
  | zero => cases hu; exact ⟨h, rfl, rfl, rfl⟩
  | succ k ih =>
    have hs := step_eq s
    revert hs
    generalize (if isResetTick s then resetTick (takeInput s) else afterTick s) = t
    intro hs
    have hu' : runTicks k t = .next u := by
      simp only [runTicks, Host.Core.run] at hu
      rw [show Sys2Proof.core.step s = .next t from hs] at hu
      exact hu
    obtain ⟨a, -, -, b1, b2, b3⟩ := quiet_step s t c h hs
    obtain ⟨d, e1, e2, e3⟩ := ih t a hu'
    exact ⟨d, e1.trans b1, e2.trans b2, e3.trans b3⟩

/-- `S(0)` and, for the second count, a channel one tick before its expiry. -/
def lastTick : State := { State.reset with regs := withCounts 1 6265 r0 }

/-- Both parts, at the shortest half-cycle and from the state in which a LOW half-cycle begins. -/
theorem witness_HalfCyclesAreExact :
    (GoodState lastTick ∧ (chan .led lastTick.regs).armed = true ∧
      ∀ k < (chan .led lastTick.regs).cnt.toNat, ∀ u, runTicks k lastTick = .next u → touchesChannel .led u = false) ∧
    (let s := between .default r0 true 0
      let q := { s with inputs := [] }
      GoodState q ∧ (chan .led q.regs).armed = true ∧ (chan .led q.regs).level = false ∧
      (chan .led q.regs).cnt = (chan .led q.regs).lowUs ∧
      ∀ k < (chan .led q.regs).lowUs.toNat + (chan .led q.regs).highUs.toNat, ∀ u, runTicks k q = .next u →
        touchesChannel .led u = false ∧ (chan .led u.regs).highUs = (chan .led q.regs).highUs ∧
        (chan .led u.regs).lowUs = (chan .led q.regs).lowUs) := by
  refine ⟨⟨good_of_test _ (by decide), by decide, ?_⟩, good_of_test _ (by decide), by decide, by decide, by decide, ?_⟩
  · intro k _ u hu
    have h := quiet_run k _ u .led ⟨rfl, rfl, rfl⟩ hu
    exact (quiet_step u _ .led h.1 (step_eq u)).2.1
  · intro k _ u hu
    have h := quiet_run k _ u .led ⟨rfl, rfl, rfl⟩ hu
    exact ⟨(quiet_step u _ .led h.1 (step_eq u)).2.1, h.2.1, h.2.2.1⟩

/-- For every `n`, a stale count of 5 on a disabled device. -/
theorem witness_StaleCountRunsOutSilently (n : Nat) :
    let s : State := { State.reset with regs := disabled 5 0 }
    GoodState s ∧ (∀ k ≤ n, ∀ u, runTicks k s = .next u → (chan .led u.regs).armed = false) ∧
    (∀ k < n, ∀ u, runTicks k s = .next u → isResetTick u = false) := by
  refine ⟨good_of_test _ (by decide), ?_, ?_⟩
  · intro k _ u hu
    exact (quiet_run k _ u .led ⟨rfl, rfl, rfl⟩ hu).2.2.2
  · intro k _ u hu
    exact (quiet_step u _ .led (quiet_run k _ u .led ⟨rfl, rfl, rfl⟩ hu).1 (step_eq u)).2.2.1

/-- The tick that enables. -/
theorem witness_DisabledLinesStayInactive :
    let s := between .default (disabled 1 5) false 0
    GoodState s ∧ s.regs.en = false ∧ ∃ t, step s = .next t :=
  ⟨good_of_test _ (by decide), by decide, steps _⟩

theorem witness_FailedChannelStaysHalted :
    let s := between .default (resetRegs .default ⟨false, true⟩) true 0
    (∃ t, step s = .next t) ∧ isResetTick s = false ∧ GoodState s ∧ (chan .mag s.regs).fail = true :=
  ⟨steps _, by decide, good_of_test _ (by decide), by decide⟩

theorem witness_ChannelsAreUncoupled :
    let s := between .default r0 false 0x2000000001
    Channel.mag ≠ Channel.led ∧ (∃ t, step s = .next t) ∧
    ∃ t', step { s with regs := setChan .mag { s.regs.mag with cnt := 1, level := true } s.regs } = .next t' :=
  ⟨by decide, steps _, steps _⟩

theorem witness_HostCannotMoveAnEdge :
    (∃ t, step { State.reset with inputs := [⟨Pins.atStart, 0x2000000001⟩] } = .next t) ∧
    ∃ t', step { State.reset with inputs := [⟨Pins.atStart, 0⟩] } = .next t' :=
  ⟨steps _, steps _⟩

theorem witness_ReadDataIsTakenAtTheStartOfTheTick :
    (∃ t, step resetting = .next t) ∧ isResetTick resetting = true ∧
    (∃ t, step (between .default r0 true 0x1100000000) = .next t) ∧
    isResetTick (between .default r0 true 0x1100000000) = false ∧
    comingTxn (between .default r0 true 0x1100000000) = .rd .status ∧
    (∀ a, comingTxn (between .default r0 true 0x2000000001) ≠ .rd a) :=
  ⟨steps _, by decide, steps _, by decide, by decide, fun a => by cases a <;> decide⟩

/-! ### The button and the mode sequencer -/

/-- An edge that is dropped at the last tick of the window, and no edge. -/
theorem witness_DroppedEdgeWritesOnlyBtnPrev :
    let r : Regs := { r0 with lastValid := true, lastAccept := 1000, now := 50999 }
    fallingEdge true r = false ∧ fallingEdge false r = true ∧ passesDebounce .default r = false := by decide

/-- An edge accepted at the first tick after the window, over a wrap of `NOW`. -/
theorem witness_AcceptedEdge :
    let r : Regs := { r0 with lastValid := true, lastAccept := 0xFFFFFFFFFFFFFFFF, now := 49999 }
    fallingEdge false r = true ∧ passesDebounce .default r = true := by decide

theorem witness_CanonicalEdgeToggles :
    Params.default.legacyModes = false ∧ acceptsEdge .default false r0 = true ∧ r0.en = true ∧
    acceptsEdge .default false (disabled 0 0) = true ∧ (disabled 0 0).en = false := by decide

theorem witness_EnableFlagHasOneWriter :
    let s := between .default r0 false 0
    s.params.legacyModes = false ∧ (∃ t, step s = .next t) ∧ isResetTick s = false ∧ edgeAccepted s = true :=
  ⟨by decide, steps _, by decide, by decide⟩

/-- Edges two ticks apart under a window of two. -/
def twoEdges : State :=
  { between { Params.default with debounceUs := 2 } r0 false 0 with
    inputs := [⟨{ Pins.atStart with btn := false }, 0⟩, ⟨Pins.atStart, 0⟩, ⟨{ Pins.atStart with btn := false }, 0⟩] }

theorem witness_AcceptedEdgesAreAWindowApart :
    edgeAccepted twoEdges = true ∧ 1 + 1 < 2 ^ 64 ∧
    (∀ k ≤ 1, ∀ v, runTicks k twoEdges = .next v → isResetTick v = false) ∧
    ∃ u, runTicks (1 + 1) twoEdges = .next u ∧ edgeAccepted u = true := by
  refine ⟨by decide, by decide, ?_, _, rfl, by decide⟩
  intro k hk v hv
  have h : (!isResetTick v) = true := by
    have hk' : k = 0 ∨ k = 1 := by omega
    rcases hk' with rfl | rfl
    · exact of_run (fun u => !isResetTick u) 0 twoEdges (by decide) v hv
    · exact of_run (fun u => !isResetTick u) 1 twoEdges (by decide) v hv
  simpa using h

/-- The legacy variant in RUN, the button seen released. -/
def running : Regs := { resetRegs (legacy .run) ⟨false, false⟩ with btnPrev := true }

theorem witness_ModeTransitionsOutOfRunAndMagnetOff :
    (legacy .run).legacyModes = true ∧ acceptsEdge (legacy .run) false running = true ∧ running.mode = .run ∧
    acceptsEdge (legacy .run) false (runToMagnetOff running) = true ∧ (runToMagnetOff running).mode = .magnetOff := by
  decide

theorem witness_EntryToRun :
    (legacy .run).legacyModes = true ∧ acceptsEdge (legacy .run) false (idleShutoff running) = true ∧
    (idleShutoff running).mode = .allOff := by decide

/-- At the timeout and one tick before it. -/
theorem witness_IdleTimeoutShutsOff :
    ((legacy .run).legacyModes = true ∧ ({ running with now := 30000 } : Regs).mode = .run ∧
      (legacy .run).idleTimeoutUs ≤ (({ running with now := 30000 } : Regs).now.toNat + 2 ^ 64 -
        ({ running with now := 30000 } : Regs).runSince.toNat) % 2 ^ 64) ∧
    ¬ ((legacy .run).legacyModes = true ∧ ({ running with now := 29999 } : Regs).mode = .run ∧
      (legacy .run).idleTimeoutUs ≤ (({ running with now := 29999 } : Regs).now.toNat + 2 ^ 64 -
        ({ running with now := 29999 } : Regs).runSince.toNat) % 2 ^ 64) := by decide

/-- A tick that ends in RUN with the magnet channel armed, one before the timeout. -/
theorem witness_RunNeverOutlastsTheIdleTimeout :
    let s := between (legacy .run) { running with now := 29999 } true 0
    s.params.WellFormed ∧ s.params.legacyModes = true ∧ GoodState s ∧
    ∃ t, step s = .next t ∧ t.regs.mode = .run ∧ t.regs.mag.armed = true :=
  ⟨by decide, by decide, good_of_test _ (by decide), _, step_eq _, by decide, by decide⟩

theorem witness_CanonicalVariantHasNoModes :
    Params.default.legacyModes = false ∧ (between .default r0 false 0).params = Params.default ∧
    (∃ t, step (between .default r0 false 0) = .next t) ∧
    r0.mode = .off ∧ r0.magOvr = false ∧ r0.runSince = 0 :=
  ⟨by decide, rfl, steps _, by decide, by decide, by decide⟩

/-! ### Host transactions -/

/-- A tick in which `REJECT` is cleared, by an accepted install. -/
theorem witness_ApplyRejectsAllOrNothing_cleared :
    let s := between .default { r0 with reject := true } true 0x2000000001
    s.regs.reject = true ∧ ∃ t, step s = .next t ∧ t.regs.reject = false :=
  ⟨by decide, _, step_eq _, by decide⟩

theorem witness_InstallStep :
    (valid 65535 1 = true ∧ valid 1 999 = true) ∧ ¬ (valid 65535 1 = true ∧ valid 1 1000 = true) := by decide

theorem witness_TransactionsWithoutEffect :
    let s := between .default r0 false 0x2000000003
    isResetTick s = false ∧ comingTxn s = .cmdRsvd 3 := by decide

theorem witness_ErrorsAreStatusBits :
    acceptable 65536 500 798 500 = false ∧
    fallingEdge false { r0 with lastValid := true } = true ∧
    passesDebounce .default { r0 with lastValid := true } = false := by decide

/-- The smallest and the largest codes. -/
theorem witness_ApplyInstallsValidSettings :
    let s := between .default { r0 with stgLedFreq := 1, stgLedDuty := 999, stgMagFreq := 65535, stgMagDuty := 1 } true 0
    (1 ≤ s.regs.stgLedFreq.toNat ∧ s.regs.stgLedFreq.toNat ≤ 65535) ∧
    (1 ≤ s.regs.stgLedDuty.toNat ∧ s.regs.stgLedDuty.toNat ≤ 999) ∧
    (1 ≤ s.regs.stgMagFreq.toNat ∧ s.regs.stgMagFreq.toNat ≤ 65535) ∧
    (1 ≤ s.regs.stgMagDuty.toNat ∧ s.regs.stgMagDuty.toNat ≤ 999) := by decide

/-- One code over its range, all others valid. -/
theorem witness_ApplyRejectsAllOrNothing :
    let s := between .default { r0 with stgMagFreq := 65536 } true 0
    s.params.WellFormed ∧
    ¬ ((1 ≤ s.regs.stgLedFreq.toNat ∧ s.regs.stgLedFreq.toNat ≤ 65535) ∧
      (1 ≤ s.regs.stgLedDuty.toNat ∧ s.regs.stgLedDuty.toNat ≤ 999) ∧
      (1 ≤ s.regs.stgMagFreq.toNat ∧ s.regs.stgMagFreq.toNat ≤ 65535) ∧
      (1 ≤ s.regs.stgMagDuty.toNat ∧ s.regs.stgMagDuty.toNat ≤ 999)) := by decide

theorem witness_DefaultsAreAlwaysInstalled : (between (legacy .run) running true 0).params.WellFormed := by decide

theorem witness_CommandsLeaveTheWaveformAlone :
    (∃ t, exec .cmdApply (between .default r0 true 0) = .next t) ∧
    ∃ t, exec .cmdDefaults (between .default r0 true 0) = .next t :=
  ⟨⟨_, exec_eq _ _⟩, _, exec_eq _ _⟩

theorem witness_WriteTransactionIsMemWrite :
    (0xFFFFFFFF : U32) ≠ 1 ∧ (0xFFFFFFFF : U32) ≠ 2 ∧ isIgnoredOnWrite .status = true ∧
    isIgnoredOnWrite .rsvd15 = true := by decide

theorem witness_SaveReqMarksAcceptedInstalls :
    (∃ t, step (between .default r0 true 0x2000000001) = .next t) ∧
    installAccepted (between .default r0 true 0x2000000001) = true :=
  ⟨steps _, by decide⟩

theorem witness_RejectTellsTheLastCommand :
    (∃ t, step resetting = .next t) ∧ isResetTick resetting = true ∧
    isResetTick (between .default r0 true 0x2000000001) = false ∧
    isInstall (between .default r0 true 0x2000000001) = true ∧
    isResetTick (between .default r0 true 0x2000000003) = false ∧
    isInstall (between .default r0 true 0x2000000003) = false :=
  ⟨steps _, by decide, by decide, by decide, by decide, by decide⟩

/-- The first of the two is rejected here. -/
theorem witness_ApplyingTwiceChangesNothing :
    let s := between .default { r0 with stgLedDuty := 1000 } true 0
    GoodState s ∧ ∃ t, exec .cmdApply s = .next t ∧ ∃ u, exec .cmdApply t = .next u :=
  ⟨good_of_test _ (by decide), _, exec_eq _ _, _, exec_eq _ _⟩

/-- A tick with an accepted edge and a rejected install. -/
theorem witness_CodesChangeOnlyByInstallOrRunEntry :
    let s := between .default { r0 with stgLedDuty := 1000 } false 0x2000000001
    (∃ t, step s = .next t) ∧ isResetTick s = false ∧ installAccepted s = false ∧
    ¬ (s.params.legacyModes = true ∧ edgeAccepted s = true ∧ s.regs.mode = .allOff) :=
  ⟨steps _, by decide, by decide, by decide⟩

/-! ### Coincidences -/

/-- An expiry under an install of another pair, and a count of 2. -/
theorem witness_NewPairWaitsForTheNextExpiry :
    let s := between .default { withCounts 1 2 r0 with stgLedDuty := 900 } true 0x2000000001
    GoodState s ∧ touchesChannel .led s = false ∧ touchesChannel .mag s = false ∧ (∃ t, step s = .next t) ∧
    ((chan .led s.regs).cnt = 1 ∧ (chan .led s.regs).armed = true) ∧ 2 ≤ (chan .mag s.regs).cnt.toNat :=
  ⟨good_of_test _ (by decide), by decide, by decide, steps _, by decide, by decide⟩

/-- VX1 and VX5. -/
theorem witness_CoincidencesWithTheButton :
    (let s := between .default (withCounts 1 55 r0) false 0
     GoodState s ∧ s.params.legacyModes = false ∧ isResetTick s = false ∧ edgeAccepted s = true ∧
      (∃ t, step s = .next t) ∧ s.regs.en = true ∧ (chan .led s.regs).cnt = 1 ∧ (chan .led s.regs).armed = true) ∧
    (let s := between .default (disabled 1 55) false 0x2000000001
     GoodState s ∧ s.params.legacyModes = false ∧ isResetTick s = false ∧ edgeAccepted s = true ∧
      (∃ t, step s = .next t) ∧ s.regs.en = false ∧ (chan .led s.regs).fail = false) :=
  ⟨⟨good_of_test _ (by decide), by decide, by decide, by decide, steps _, by decide, by decide, by decide⟩,
    good_of_test _ (by decide), by decide, by decide, by decide, steps _, by decide, by decide⟩

/-- VX7: an entry to RUN with a `CMD.APPLY` that is accepted though the staged frequency is 0, and one that is not. -/
theorem witness_CoincidencesInTheLegacyVariant_apply :
    let r : Regs := { resetRegs (legacy .allOff) ⟨false, false⟩ with btnPrev := true, now := 5, stgMagFreq := 0 }
    (let s := between (legacy .allOff) r false 0x2000000001
     GoodState s ∧ isResetTick s = false ∧ edgeAccepted s = true ∧ (∃ t, step s = .next t) ∧
      s.regs.mode = .allOff ∧ comingTxn s = .cmdApply ∧ s.regs.led.fail = false ∧ s.regs.mag.fail = false ∧
      valid s.regs.stgLedFreq.toNat s.regs.stgLedDuty.toNat = true ∧
      valid s.params.magBaseFreq.toNat s.regs.stgMagDuty.toNat = true) ∧
    (let s := between (legacy .allOff) { r with stgMagDuty := 1000 } false 0x2000000001
     GoodState s ∧ isResetTick s = false ∧ edgeAccepted s = true ∧ (∃ t, step s = .next t) ∧
      s.regs.mode = .allOff ∧ comingTxn s = .cmdApply ∧
      ¬ (valid s.regs.stgLedFreq.toNat s.regs.stgLedDuty.toNat = true ∧
        valid s.params.magBaseFreq.toNat s.regs.stgMagDuty.toNat = true)) :=
  ⟨⟨good_of_test _ (by decide), by decide, by decide, steps _, by decide, by decide, by decide, by decide, by decide,
      by decide⟩,
    good_of_test _ (by decide), by decide, by decide, steps _, by decide, by decide, by decide⟩

/-- VX6, and VM7 with the timeout due. -/
theorem witness_CoincidencesInTheLegacyVariant :
    (let s := between (legacy .allOff)
        { resetRegs (legacy .allOff) ⟨false, false⟩ with btnPrev := true, now := 5 } false 0x2400000384
     GoodState s ∧ s.params.legacyModes = true ∧ isResetTick s = false ∧ edgeAccepted s = true ∧
      (∃ t, step s = .next t) ∧ s.regs.mode = .allOff ∧ comingTxn s = .wrStgMagFreq 900) ∧
    (let s := between (legacy .run) { running with now := 30000 } false 0
     GoodState s ∧ s.params.legacyModes = true ∧ isResetTick s = false ∧ edgeAccepted s = true ∧
      (∃ t, step s = .next t) ∧ s.regs.mode = .run) :=
  ⟨⟨good_of_test _ (by decide), by decide, by decide, by decide, steps _, by decide, by decide⟩,
    good_of_test _ (by decide), by decide, by decide, by decide, steps _, by decide⟩

/-! ### The calculator and the encoding -/

theorem witness_RoundingIsHalfUp : 0 < 1 ∧ 1 ≤ 1 := by decide

theorem witness_PeriodOfAFrequencyCode : 1 ≤ 1 ∧ 1 ≤ 65535 ∧ 65535 ≤ 65535 := by decide

/-- The corners of the domain, and the edges of the safe band. -/
theorem witness_IntervalPairOfTheCodes :
    valid 1 1 = true ∧ valid 65535 999 = true ∧ (valid 500 500 = true ∧ 500 ≤ 500) ∧
    (valid 1500 500 = true ∧ 1500 ≤ 1500) := by decide

/-- A pair that is clamped and one that is not. -/
theorem witness_IntervalPairProperties :
    valid 65535 999 = true ∧ valid 798 500 = true ∧
    (calcPair 798 500).high.toNat = (period 798 * 500 + 500) / 1000 := by decide

theorem witness_DecodeOfEncode :
    (Instr.cmdRsvd 0xFFFFFFFF).wellFormed = true ∧ (Instr.wrIgn .rsvd15 0).wellFormed = true := by decide

theorem witness_IgnoredBitsDoNotMatter :
    isResetTick (between .default r0 true (txnWord 1 15 0xFFFFFFFF)) = false ∧
    (nextInput (between .default r0 true (txnWord 1 15 0xFFFFFFFF))).host = txnWord 1 15 0xFFFFFFFF := by decide

theorem witness_DecodeFollowsTheOpcodeTable :
    opField 0x2600000001 = 2 ∧ opField 0x1F00000007 = 1 := by decide

end Sys2Proof.Tests
end

section
/-! PROOFS. The family `00_scope.md`: what every tick leaves alone. -/

namespace Sys2Proof.Machine

@[simp] theorem afterTick_params (s : State) : (afterTick s).params = s.params := rfl

/-- What one step can do: a reset tick, or a tick through all its phases. -/
theorem step_cases {s t : State} (h : step s = .next t) :
    (isResetTick s = true ∧ t = resetTick (takeInput s)) ∨ (isResetTick s = false ∧ t = afterTick s) := by
  cases hr : isResetTick s
  · rw [step_tick s hr] at h
    cases h
    exact .inr ⟨rfl, rfl⟩
  · rw [step_reset s hr] at h
    cases h
    exact .inl ⟨rfl, rfl⟩

/-- Settles O9: neither kind of tick writes `State.params`. -/
theorem parametersNeverChange : Obligations.ParametersNeverChange := by
  intro s t h
  obtain ⟨-, rfl⟩ | ⟨-, rfl⟩ := step_cases h
  · simp only [resetTick_params, takeInput_params]
  · exact afterTick_params s

end Sys2Proof.Machine
end

section
/-! PROOFS. The family `10_state.md`, first part: the invariants of R30, at reset and under every phase of a tick. -/

namespace Sys2Proof.Machine

/-! ### The calculator on valid codes (R70 to R74) -/

theorem valid_iff (f d : Nat) : valid f d = true ↔ (1 ≤ f ∧ f ≤ 65535) ∧ (1 ≤ d ∧ d ≤ 999) := by
  simp [valid, and_assoc]

/-- The range of R71. -/
theorem period_bounds {f : Nat} (h1 : 1 ≤ f) (h2 : f ≤ 65535) : 153 ≤ period f ∧ period f ≤ 10000000 := by
  unfold period
  constructor
  · rw [Nat.le_div_iff_mul_le (by omega)]
    omega
  · rw [← Nat.lt_succ_iff, Nat.div_lt_iff_lt_mul (by omega)]
    omega

/-- R72 splits the period into two positive parts. -/
theorem highTicks_lowTicks {f d : Nat} (h : valid f d = true) :
    1 ≤ highTicks f d ∧ 1 ≤ lowTicks f d ∧ highTicks f d + lowTicks f d = period f := by
  obtain ⟨⟨hf1, hf2⟩, -⟩ := (valid_iff f d).1 h
  have hp := period_bounds hf1 hf2
  unfold lowTicks highTicks
  omega

/-- The 32-bit registers hold the pair of R72 without truncation. -/
theorem calcPair_toNat {f d : Nat} (h : valid f d = true) :
    (calcPair f d).high.toNat = highTicks f d ∧ (calcPair f d).low.toNat = lowTicks f d := by
  obtain ⟨⟨hf1, hf2⟩, -⟩ := (valid_iff f d).1 h
  have hp := period_bounds hf1 hf2
  have hs := highTicks_lowTicks h
  simp only [calcPair, h, if_true, BitVec.toNat_ofNat]
  omega

/-! ### R30, channel by channel -/

/-- The items of R30 that speak of one channel (1 to 7), given its effective enable. What item 2 says of the durations
follows from its first half and is left out here. -/
structure ChanInv (enabled : Bool) (x : ChannelRegs) : Prop where
  codesValid : valid x.freq.toNat x.duty.toNat = true
  pairMatches : (⟨x.highUs, x.lowUs⟩ : IntervalPair) = calcPair x.freq.toNat x.duty.toNat
  armedIff : x.armed = (enabled && !x.fail)
  armedCounting : x.armed = true → 1 ≤ x.cnt.toNat
  haltedLow : x.armed = false → x.level = false
  cntBound : x.cnt.toNat ≤ 10000000 - 1
  failedIdle : x.fail = true → x.cnt = 0

/-- The items of R30 that speak of the variants (8 and 9). -/
structure ModeInv (p : Params) (r : Regs) : Prop where
  canonical : p.legacyModes = false → r.mode = .off ∧ r.magOvr = false ∧ r.runSince = 0
  legacy : p.legacyModes = true →
    (r.mode = .run ∧ r.en = true ∧ r.magOvr = false) ∨
    (r.mode = .magnetOff ∧ r.en = true ∧ r.magOvr = true) ∨
    (r.mode = .allOff ∧ r.en = false ∧ r.magOvr = true)

theorem ModeInv.of_canonical {p : Params} {r : Regs} (hl : p.legacyModes = false)
    (h : r.mode = .off ∧ r.magOvr = false ∧ r.runSince = 0) : ModeInv p r :=
  ⟨fun _ => h, fun hl' => absurd (hl.symm.trans hl') (by decide)⟩

theorem ModeInv.of_legacy {p : Params} {r : Regs} (hl : p.legacyModes = true)
    (h : (r.mode = .run ∧ r.en = true ∧ r.magOvr = false) ∨
      (r.mode = .magnetOff ∧ r.en = true ∧ r.magOvr = true) ∨
      (r.mode = .allOff ∧ r.en = false ∧ r.magOvr = true)) : ModeInv p r :=
  ⟨fun hl' => absurd (hl.symm.trans hl') (by decide), fun _ => h⟩

/-- R30 item 2: the durations of a channel are positive and add up to its period. -/
theorem pair_durations {x : ChannelRegs} (hv : valid x.freq.toNat x.duty.toNat = true)
    (hm : (⟨x.highUs, x.lowUs⟩ : IntervalPair) = calcPair x.freq.toNat x.duty.toNat) :
    (1 ≤ x.highUs.toNat ∧ 1 ≤ x.lowUs.toNat) ∧ x.highUs.toNat + x.lowUs.toNat = period x.freq.toNat ∧
      153 ≤ x.highUs.toNat + x.lowUs.toNat ∧ x.highUs.toNat + x.lowUs.toNat ≤ 10000000 := by
  obtain ⟨⟨hf1, hf2⟩, -⟩ := (valid_iff _ _).1 hv
  have hp := period_bounds hf1 hf2
  have hs := highTicks_lowTicks hv
  obtain ⟨hhigh, hlow⟩ := calcPair_toNat hv
  rw [← hm] at hhigh hlow
  dsimp only at hhigh hlow
  omega

/-- R30 is an invariant of each channel, one of the mode registers, and the first half of item 10. -/
theorem regsInv_iff {p : Params} {r : Regs} : RegsInv p r ↔
    (∀ c, ChanInv (enEff c r) (chan c r)) ∧ ModeInv p r ∧ (r.lastValid = false → r.lastAccept = 0) := by
  constructor
  · intro h
    exact ⟨fun c => ⟨h.codesValid c, h.pairMatches c, h.armedIff c, h.armedCounting c, h.haltedLow c, h.cntBound c,
      h.failedIdle c⟩, ⟨h.canonicalMode, h.legacyMode⟩, h.noAcceptYet⟩
  · rintro ⟨hc, hm, ha⟩
    have hd := fun c => pair_durations (hc c).codesValid (hc c).pairMatches
    exact ⟨fun c => (hc c).codesValid, fun c => (hc c).pairMatches, fun c => (hd c).1, fun c => (hd c).2,
      fun c => (hc c).armedIff, fun c => (hc c).armedCounting, fun c => (hc c).haltedLow, fun c => (hc c).cntBound,
      fun c => (hc c).failedIdle, hm.canonical, hm.legacy, ha⟩

/-- The elements that R30 does not speak of. -/
theorem RegsInv.of_unconstrained {p : Params} {r : Regs} (h : RegsInv p r) {now : U64} {btnPrev reject saveReq : Bool}
    {lf ld mf md : U32} :
    RegsInv p { r with
      now := now, btnPrev := btnPrev, stgLedFreq := lf, stgLedDuty := ld, stgMagFreq := mf, stgMagDuty := md
      reject := reject, saveReq := saveReq } := by
  obtain ⟨hc, hm, ha⟩ := regsInv_iff.1 h
  exact regsInv_iff.2 ⟨fun | .led => hc .led | .mag => hc .mag, ⟨hm.canonical, hm.legacy⟩, ha⟩

/-- "When `EN = 0` both channels have `ARMED = 0` and `LEVEL = 0`" (R30). -/
theorem RegsInv.disabled_low {p : Params} {r : Regs} (h : RegsInv p r) (he : r.en = false) (c : Channel) :
    (chan c r).armed = false ∧ (chan c r).level = false := by
  have harmed : (chan c r).armed = false := by
    rw [h.armedIff c]
    cases c <;> simp [enEff, he]
  exact ⟨harmed, h.haltedLow c harmed⟩

/-- R17 with R30 items 3, 5 and 7: a failed channel is halted with its timer idle. -/
theorem RegsInv.failed_halted {p : Params} {r : Regs} (h : RegsInv p r) {c : Channel} (hf : (chan c r).fail = true) :
    (chan c r).level = false ∧ (chan c r).armed = false ∧ (chan c r).cnt = 0 := by
  have harmed : (chan c r).armed = false := by simp [h.armedIff c, hf]
  exact ⟨h.haltedLow c harmed, harmed, h.failedIdle c hf⟩

/-! ### What the operations on one channel keep -/

section
variable {enabled : Bool} {x : ChannelRegs}

/-- The duration a reload takes is a count that R30 allows. -/
theorem ChanInv.durationOf_bounds (h : ChanInv enabled x) (level : Bool) :
    1 ≤ (durationOf x level).toNat ∧ (durationOf x level).toNat ≤ 10000000 - 1 := by
  have hd := pair_durations h.codesValid h.pairMatches
  cases level <;> simp only [durationOf, Bool.false_eq_true, if_false, if_true] <;> omega

/-- R30 item 3: an armed channel has not failed. -/
theorem ChanInv.sound_of_armed (h : ChanInv enabled x) (ha : x.armed = true) : x.fail = false := by
  have hi := h.armedIff
  rw [ha] at hi
  cases hf : x.fail
  · rfl
  · simp [hf] at hi

/-- R83: the toggle of an armed channel. -/
theorem toggled_chanInv (h : ChanInv enabled x) (ha : x.armed = true) : ChanInv enabled (toggled x) := by
  obtain ⟨hpos, hbound⟩ := h.durationOf_bounds (!x.level)
  exact { codesValid := h.codesValid, pairMatches := h.pairMatches, armedIff := h.armedIff
          armedCounting := fun _ => hpos
          haltedLow := fun hn => absurd (ha.symm.trans hn) (by decide)
          cntBound := hbound
          failedIdle := fun hf => absurd ((h.sound_of_armed ha).symm.trans hf) (by decide) }

/-- R82, R84: a smaller count, which is idle on a halted channel only. -/
theorem with_cnt_chanInv (h : ChanInv enabled x) {n : U32} (hle : n.toNat ≤ x.cnt.toNat)
    (hpos : x.armed = true → 1 ≤ n.toNat) : ChanInv enabled { x with cnt := n } :=
  { codesValid := h.codesValid, pairMatches := h.pairMatches, armedIff := h.armedIff
    armedCounting := hpos, haltedLow := h.haltedLow
    cntBound := hle.trans h.cntBound
    failedIdle := fun hf => by
      rw [h.failedIdle hf] at hle
      exact BitVec.eq_of_toNat_eq (Nat.le_zero.1 hle) }

/-- R82 to R84: the countdown, whose guard is `ARMED[c]` in a state of R30. -/
theorem countdownChan_chanInv (h : ChanInv enabled x) : ChanInv enabled (countdownChan x.armed x) := by
  by_cases h0 : x.cnt = 0
  · rwa [countdownChan_idle _ _ h0]
  by_cases h1 : x.cnt = 1
  · cases ha : x.armed
    · rw [countdownChan_guarded x h1]
      exact with_cnt_chanInv h (Nat.zero_le _) (by simp [ha])
    · rw [countdownChan_expiry x h1]
      exact toggled_chanInv h ha
  · have h2 : 2 ≤ x.cnt.toNat := by bv_omega
    rw [countdownChan_counting _ x h2]
    exact with_cnt_chanInv h (by bv_omega) (fun _ => by bv_omega)

/-- R87: a stopped channel is one that is not enabled. -/
theorem stopped_chanInv (h : ChanInv enabled x) : ChanInv false { x with level := false, armed := false } :=
  { codesValid := h.codesValid, pairMatches := h.pairMatches, armedIff := rfl
    armedCounting := fun ha => by cases ha
    haltedLow := fun _ => rfl, cntBound := h.cntBound, failedIdle := h.failedIdle }

/-- R86: a channel that is not enabled starts, or stays as it is. -/
theorem startedIf_chanInv (h : ChanInv false x) (e : Bool) : ChanInv e (startedIf e x) := by
  obtain ⟨hpos, hbound⟩ := h.durationOf_bounds false
  unfold startedIf
  split
  next hg =>
    simp only [Bool.and_eq_true, Bool.not_eq_true'] at hg
    obtain ⟨he, hsound⟩ := hg
    exact { codesValid := h.codesValid, pairMatches := h.pairMatches, armedIff := by simp [he, hsound]
            armedCounting := fun _ => hpos, haltedLow := fun _ => rfl, cntBound := hbound
            failedIdle := fun hf => absurd (hsound.symm.trans hf) (by decide) }
  next hg =>
    have hoff : (e && !x.fail) = false := by simpa using hg
    exact { h with armedIff := h.armedIff.trans hoff.symm }

/-- R117: new valid codes with their pair. -/
theorem withCodes_chanInv (h : ChanInv enabled x) {f d : Nat} (hv : valid f d = true) :
    ChanInv enabled (withCodes f d x) := by
  obtain ⟨⟨-, hf2⟩, -, hd2⟩ := (valid_iff f d).1 hv
  have hf : (BitVec.ofNat 16 f).toNat = f := by rw [BitVec.toNat_ofNat]; omega
  have hd : (BitVec.ofNat 16 d).toNat = d := by rw [BitVec.toNat_ofNat]; omega
  exact { codesValid := by simp only [withCodes, hf, hd, hv]
          pairMatches := by simp only [withCodes, hf, hd]
          armedIff := h.armedIff, armedCounting := h.armedCounting, haltedLow := h.haltedLow
          cntBound := h.cntBound, failedIdle := h.failedIdle }

end

/-! ### Reset (R167, R36) -/

@[simp] theorem resetRegs_en (p : Params) (f : Straps) :
    (resetRegs p f).en =
      if p.legacyModes then decide (p.modeReset = .run ∨ p.modeReset = .magnetOff) else p.enReset := by
  rw [resetRegs_eq, resetUnstarted_eq]
  cases p.modeReset <;> rfl

@[simp] theorem resetRegs_magOvr (p : Params) (f : Straps) :
    (resetRegs p f).magOvr = if p.legacyModes then decide (p.modeReset ≠ .run) else false := by
  rw [resetRegs_eq, resetUnstarted_eq]
  cases p.modeReset <;> rfl

@[simp] theorem resetRegs_mode (p : Params) (f : Straps) :
    (resetRegs p f).mode = if p.legacyModes then modeOfReset p.modeReset else .off := by
  rw [resetRegs_eq, resetUnstarted_eq]

/-- The frequency code of each channel at reset: the magnet takes the base frequency when reset enters RUN (R36). -/
def resetFreq (p : Params) : Channel → U16
  | .led => p.defLedFreq
  | .mag => if p.legacyModes = true ∧ p.modeReset = .run then p.magBaseFreq else p.defMagFreq

/-- The duty code of each channel at reset (R36). -/
def resetDuty (p : Params) : Channel → U16
  | .led => p.defLedDuty
  | .mag => p.defMagDuty

/-- The strap of each channel (R168). -/
def strapOf (f : Straps) : Channel → Bool
  | .led => f.led
  | .mag => f.mag

/-- A channel of the reset state before the start of R167. -/
def resetChan (c : Channel) (p : Params) (f : Straps) : ChannelRegs :=
  withIntervals { haltedChannel (resetFreq p c) (resetDuty p c) with fail := strapOf f c }

theorem chan_resetUnstarted (c : Channel) (p : Params) (f : Straps) :
    chan c (resetUnstarted p f) = resetChan c p f := by
  rw [resetUnstarted_eq]
  cases c
  · rfl
  · simp [resetChan, resetFreq, resetDuty, strapOf]

/-- Each channel of the reset state, from its codes, its strap and its effective enable. -/
theorem chan_resetRegs (c : Channel) (p : Params) (f : Straps) :
    chan c (resetRegs p f) = startedIf (enEff c (resetRegs p f)) (resetChan c p f) := by
  rw [← chan_resetUnstarted, resetRegs_eq]
  cases c <;> rfl

/-! A start writes no code, no interval and no `FAIL` (R86). -/

@[simp] theorem startedIf_freq (e : Bool) (x : ChannelRegs) : (startedIf e x).freq = x.freq := by
  unfold startedIf; split <;> rfl

@[simp] theorem startedIf_duty (e : Bool) (x : ChannelRegs) : (startedIf e x).duty = x.duty := by
  unfold startedIf; split <;> rfl

@[simp] theorem startedIf_highUs (e : Bool) (x : ChannelRegs) : (startedIf e x).highUs = x.highUs := by
  unfold startedIf; split <;> rfl

@[simp] theorem startedIf_lowUs (e : Bool) (x : ChannelRegs) : (startedIf e x).lowUs = x.lowUs := by
  unfold startedIf; split <;> rfl

@[simp] theorem startedIf_fail (e : Bool) (x : ChannelRegs) : (startedIf e x).fail = x.fail := by
  unfold startedIf; split <;> rfl

/-- What `startedIf` makes of the timer of a halted, idle channel. -/
theorem startedIf_timer (e : Bool) {x : ChannelRegs} (hl : x.level = false) (ha : x.armed = false) (hc : x.cnt = 0) :
    (startedIf e x).level = false ∧ (startedIf e x).armed = (e && !x.fail) ∧
    (startedIf e x).cnt = if (startedIf e x).armed then x.lowUs else 0 := by
  unfold startedIf
  cases hg : (e && !x.fail) <;> simp [hl, ha, hc]

theorem chan_resetRegs_freq (c : Channel) (p : Params) (f : Straps) :
    (chan c (resetRegs p f)).freq = resetFreq p c := by
  rw [chan_resetRegs, startedIf_freq]; rfl

theorem chan_resetRegs_duty (c : Channel) (p : Params) (f : Straps) :
    (chan c (resetRegs p f)).duty = resetDuty p c := by
  rw [chan_resetRegs, startedIf_duty]; rfl

theorem chan_resetRegs_fail (c : Channel) (p : Params) (f : Straps) :
    (chan c (resetRegs p f)).fail = strapOf f c := by
  rw [chan_resetRegs, startedIf_fail]; rfl

theorem chan_resetRegs_pair (c : Channel) (p : Params) (f : Straps) :
    (⟨(chan c (resetRegs p f)).highUs, (chan c (resetRegs p f)).lowUs⟩ : IntervalPair) =
      calcPair (chan c (resetRegs p f)).freq.toNat (chan c (resetRegs p f)).duty.toNat := by
  rw [chan_resetRegs, startedIf_highUs, startedIf_lowUs, startedIf_freq, startedIf_duty]; rfl

/-- The rows of R36 for `LEVEL`, `ARMED` and `CNT`. -/
theorem chan_resetRegs_timer (c : Channel) (p : Params) (f : Straps) :
    (chan c (resetRegs p f)).level = false ∧
    (chan c (resetRegs p f)).armed = (enEff c (resetRegs p f) && !(chan c (resetRegs p f)).fail) ∧
    (chan c (resetRegs p f)).cnt =
      if (chan c (resetRegs p f)).armed then (chan c (resetRegs p f)).lowUs else 0 := by
  rw [chan_resetRegs c p f, startedIf_fail, startedIf_lowUs]
  exact startedIf_timer (enEff c (resetRegs p f)) rfl rfl rfl

/-- The staging registers take the live codes, which the starts leave alone. -/
theorem resetRegs_staging (p : Params) (f : Straps) :
    (resetRegs p f).stgLedFreq = zext32 (resetRegs p f).led.freq ∧
    (resetRegs p f).stgLedDuty = zext32 (resetRegs p f).led.duty ∧
    (resetRegs p f).stgMagFreq = zext32 (resetRegs p f).mag.freq ∧
    (resetRegs p f).stgMagDuty = zext32 (resetRegs p f).mag.duty := by
  rw [resetRegs_eq]
  simp only [startedIf_freq, startedIf_duty]
  exact ⟨rfl, rfl, rfl, rfl⟩

/-- Settles O2: each row is the lemma about its element; the default column is evaluated. -/
theorem resetRegistersMeetTheTable : Obligations.ResetRegistersMeetTheTable := by
  refine ⟨fun p f => ?_, by decide⟩
  obtain ⟨hLedFreq, hLedDuty, hMagFreq, hMagDuty⟩ := resetRegs_staging p f
  exact ⟨resetRegs_now p f,
    chan_resetRegs_freq .led p f, chan_resetRegs_duty .led p f,
    chan_resetRegs_freq .mag p f, chan_resetRegs_duty .mag p f,
    fun c => chan_resetRegs_pair c p f,
    chan_resetRegs_fail .led p f, chan_resetRegs_fail .mag p f,
    resetRegs_en p f, resetRegs_magOvr p f, resetRegs_mode p f, resetRegs_runSince p f,
    fun c => chan_resetRegs_timer c p f,
    resetRegs_btnPrev p f, resetRegs_lastAccept p f, resetRegs_lastValid p f,
    hLedFreq, hLedDuty, hMagFreq, hMagDuty,
    resetRegs_reject p f, resetRegs_saveReq p f⟩

/-- The codes of the reset state are valid: both defaults are, and so is the base frequency (R4). -/
theorem resetCodes_valid (c : Channel) {p : Params} (hp : p.WellFormed) :
    valid (resetFreq p c).toNat (resetDuty p c).toNat = true := by
  obtain ⟨-, -, hlf, hld, hmf, hmd, hbase, -⟩ := hp
  rw [valid_iff]
  cases c
  · exact ⟨⟨hlf, by have := p.defLedFreq.isLt; simp only [resetFreq]; omega⟩, hld⟩
  · refine ⟨?_, hmd⟩
    simp only [resetFreq]
    split <;> omega

/-- R167: a channel before its start meets the items of R30 as a channel that is not enabled. -/
theorem resetChan_chanInv (c : Channel) {p : Params} (f : Straps) (hp : p.WellFormed) :
    ChanInv false (resetChan c p f) :=
  { codesValid := resetCodes_valid c hp, pairMatches := rfl, armedIff := rfl
    armedCounting := fun ha => by cases ha
    haltedLow := fun _ => rfl, cntBound := Nat.zero_le _, failedIdle := fun _ => rfl }

theorem resetRegs_modeInv (p : Params) (f : Straps) : ModeInv p (resetRegs p f) := by
  constructor
  · intro hl
    simp [hl]
  · intro hl
    cases hm : p.modeReset <;> simp [hl, hm, modeOfReset]

/-- R30 at every reset state. -/
theorem resetRegs_regsInv {p : Params} (f : Straps) (hp : p.WellFormed) : RegsInv p (resetRegs p f) := by
  refine regsInv_iff.2 ⟨fun c => ?_, resetRegs_modeInv p f, fun _ => resetRegs_lastAccept p f⟩
  rw [chan_resetRegs]
  exact startedIf_chanInv (resetChan_chanInv c f hp) _

/-- Settles O4. -/
theorem everyResetIsAGoodState : Obligations.EveryResetIsAGoodState :=
  fun _ f hp => { params := hp, regs := resetRegs_regsInv f hp, between := rfl }

/-- Settles O3: the default column of R4 meets that rule's constraints. -/
theorem defaultResetIsAGoodState : Obligations.DefaultResetIsAGoodState :=
  everyResetIsAGoodState Params.default ⟨false, false⟩ (by decide)

end Sys2Proof.Machine
end

section
/-! PROOFS. The family `10_state.md`, second part: every phase of a tick keeps R30, so every tick and every run does. -/

namespace Sys2Proof.Machine

/-! ### P0 and P1 -/

/-- In a state of R30 the guard of R83 is `ARMED[c]` (item 3). -/
theorem RegsInv.mayToggle_eq_armed {p : Params} {r : Regs} (h : RegsInv p r) (c : Channel) :
    mayToggle c r = (chan c r).armed := by
  have ha := h.armedIff c
  unfold mayToggle
  rw [ha]
  cases enEff c r <;> simp

theorem timerPhase_regsInv {p : Params} {r : Regs} (h : RegsInv p r) : RegsInv p (timerPhase r) := by
  obtain ⟨hc, hm, ha⟩ := regsInv_iff.1 h
  refine regsInv_iff.2 ⟨fun c => ?_, ⟨by simpa using hm.canonical, by simpa using hm.legacy⟩, by simpa using ha⟩
  rw [enEff_timerPhase, chan_timerPhase, h.mayToggle_eq_armed c]
  exact countdownChan_chanInv (hc c)

/-! ### P2: the controller -/

@[simp] theorem controllerAction_lastAccept (p : Params) (r : Regs) :
    (controllerAction p r).lastAccept = r.lastAccept := by
  rcases controllerAction_cases p r with h | h | h | h | h | h <;> rw [h] <;>
    simp [disable, enable, runToMagnetOff, magnetOffToAllOff, enterRun, loadBaseFreq]

@[simp] theorem controllerAction_lastValid (p : Params) (r : Regs) :
    (controllerAction p r).lastValid = r.lastValid := by
  rcases controllerAction_cases p r with h | h | h | h | h | h <;> rw [h] <;>
    simp [disable, enable, runToMagnetOff, magnetOffToAllOff, enterRun, loadBaseFreq]

/-- Both channels stopped, one after the other. -/
theorem chan_stop_both (c : Channel) (r : Regs) :
    chan c (stop .mag (stop .led r)) = { chan c r with level := false, armed := false } := by
  cases c <;> rfl

theorem chan_start_startedIf (c : Channel) (r : Regs) : chan c (start c r) = startedIf true (chan c r) := by
  rw [chan_start_same, startedIf]
  cases hf : (chan c r).fail <;> simp [hf]

/-- Both channels started, one after the other. -/
theorem chan_start_both (c : Channel) (r : Regs) :
    chan c (start .mag (start .led r)) = startedIf true (chan c r) := by
  cases c
  · rw [chan_start_other .mag .led _ (by decide), chan_start_startedIf]
  · rw [chan_start_startedIf, chan_start_other .led .mag _ (by decide)]

/-- `EN = 0` disables both channels. -/
theorem enEff_disabled {r : Regs} (h : r.en = false) (c : Channel) : enEff c r = false := by
  cases c <;> simp [enEff, h]

/-- An action that clears `EN` and stops both channels ends in R30, whatever enable the channels had. -/
theorem stopBoth_regsInv {p : Params} {r : Regs} {enabled : Channel → Bool}
    (hc : ∀ c, ChanInv (enabled c) (chan c r)) (he : r.en = false) (hm : ModeInv p r)
    (ha : r.lastValid = false → r.lastAccept = 0) : RegsInv p (stop .mag (stop .led r)) := by
  refine regsInv_iff.2 ⟨fun c => ?_, ⟨hm.canonical, hm.legacy⟩, ha⟩
  rw [enEff_disabled (r := stop .mag (stop .led r)) he, chan_stop_both]
  exact stopped_chanInv (hc c)

/-- An action that enables and starts both channels, none of which was enabled, ends in R30. -/
theorem startBoth_regsInv {p : Params} {r : Regs} (hc : ∀ c, ChanInv false (chan c r))
    (he : r.en = true) (ho : r.magOvr = false) (hm : ModeInv p r)
    (ha : r.lastValid = false → r.lastAccept = 0) : RegsInv p (start .mag (start .led r)) := by
  refine regsInv_iff.2 ⟨fun c => ?_, ⟨by simpa using hm.canonical, by simpa using hm.legacy⟩, by simpa using ha⟩
  have hen : enEff c r = true := by cases c <;> simp [enEff, he, ho]
  rw [enEff_start, enEff_start, hen, chan_start_both]
  exact startedIf_chanInv (hc c) true

/-- The channels of a disabled device, in the terms of R30. -/
theorem RegsInv.chanInv_disabled {p : Params} {r : Regs} (h : RegsInv p r) (he : r.en = false) (c : Channel) :
    ChanInv false (chan c r) := by
  have hc := (regsInv_iff.1 h).1 c
  rwa [enEff_disabled he] at hc

/-- R96. -/
theorem disable_regsInv {p : Params} {r : Regs} (h : RegsInv p r) (hl : p.legacyModes = false) :
    RegsInv p (disable r) := by
  obtain ⟨hc, -, ha⟩ := regsInv_iff.1 h
  exact stopBoth_regsInv (r := { r with en := false }) (enabled := fun c => enEff c r)
    (fun | .led => hc .led | .mag => hc .mag) rfl (.of_canonical hl (h.canonicalMode hl)) ha

/-- R97. -/
theorem enable_regsInv {p : Params} {r : Regs} (h : RegsInv p r) (hl : p.legacyModes = false) (he : r.en = false) :
    RegsInv p (enable r) := by
  have hc := h.chanInv_disabled he
  obtain ⟨hmode, hovr, hsince⟩ := h.canonicalMode hl
  exact startBoth_regsInv (r := { r with en := true }) (fun | .led => hc .led | .mag => hc .mag) rfl hovr
    (.of_canonical hl ⟨hmode, hovr, hsince⟩) h.noAcceptYet

/-- R124. -/
theorem runToMagnetOff_regsInv {p : Params} {r : Regs} (h : RegsInv p r) (hl : p.legacyModes = true)
    (he : r.en = true) : RegsInv p (runToMagnetOff r) := by
  obtain ⟨hc, -, ha⟩ := regsInv_iff.1 h
  refine regsInv_iff.2 ⟨fun c => ?_, .of_legacy hl (.inr (.inl ⟨rfl, he, rfl⟩)), ha⟩
  cases c
  · exact hc .led
  · have hoff : enEff .mag (runToMagnetOff r) = false := by simp [runToMagnetOff, enEff]
    rw [hoff]
    exact stopped_chanInv (hc .mag)

/-- R125. -/
theorem magnetOffToAllOff_regsInv {p : Params} {r : Regs} (h : RegsInv p r) (hl : p.legacyModes = true)
    (ho : r.magOvr = true) : RegsInv p (magnetOffToAllOff r) := by
  obtain ⟨hc, -, ha⟩ := regsInv_iff.1 h
  exact stopBoth_regsInv (r := { r with mode := .allOff, en := false }) (enabled := fun c => enEff c r)
    (fun | .led => hc .led | .mag => hc .mag) rfl (.of_legacy hl (.inr (.inr ⟨rfl, rfl, ho⟩))) ha

/-- R126 gives the magnet channel the base frequency as an install would: valid codes with their pair. -/
theorem loadBaseFreq_mag (p : Params) (r : Regs) :
    (loadBaseFreq p r).mag = withCodes p.magBaseFreq.toNat r.mag.duty.toNat r.mag := by
  simp [loadBaseFreq, withCodes]

/-- In the legacy variant R30 does not speak of `RUN_SINCE`. -/
theorem RegsInv.with_runSince {p : Params} {r : Regs} (h : RegsInv p r) (hl : p.legacyModes = true) (t : U64) :
    RegsInv p { r with runSince := t } := by
  obtain ⟨hc, hm, ha⟩ := regsInv_iff.1 h
  exact regsInv_iff.2 ⟨fun | .led => hc .led | .mag => hc .mag, .of_legacy hl (hm.legacy hl), ha⟩

/-- R126. -/
theorem enterRun_regsInv {p : Params} {r : Regs} (hp : p.WellFormed) (h : RegsInv p r) (hl : p.legacyModes = true)
    (he : r.en = false) : RegsInv p (enterRun p r) := by
  obtain ⟨-, -, -, -, -, -, hbase, -⟩ := hp
  obtain ⟨-, hduty⟩ := (valid_iff _ _).1 (h.codesValid .mag)
  have hvalid : valid p.magBaseFreq.toNat r.mag.duty.toNat = true := (valid_iff _ _).2 ⟨by omega, hduty⟩
  have hc := h.chanInv_disabled he
  have hmag : ChanInv false (loadBaseFreq p { r with mode := .run, en := true, magOvr := false }).mag := by
    rw [loadBaseFreq_mag]
    exact withCodes_chanInv (hc .mag) hvalid
  have hstart := startBoth_regsInv (r := loadBaseFreq p { r with mode := .run, en := true, magOvr := false })
    (fun | .led => hc .led | .mag => hmag) rfl rfl (.of_legacy hl (.inl ⟨rfl, rfl, rfl⟩)) h.noAcceptYet
  exact hstart.with_runSince hl _

/-- R95, R123: the controller keeps R30, in each variant by the actions that its invariant admits. -/
theorem controllerAction_regsInv {p : Params} {r : Regs} (hp : p.WellFormed) (h : RegsInv p r) :
    RegsInv p (controllerAction p r) := by
  cases hl : p.legacyModes
  · cases he : r.en
    · rw [controllerAction_enable p r hl he]
      exact enable_regsInv h hl he
    · rw [controllerAction_disable p r hl he]
      exact disable_regsInv h hl
  · rw [controllerAction_legacy p r hl, advanceMode]
    rcases h.legacyMode hl with ⟨hmode, he, -⟩ | ⟨hmode, -, ho⟩ | ⟨hmode, he, -⟩ <;> rw [hmode]
    · exact runToMagnetOff_regsInv h hl he
    · exact magnetOffToAllOff_regsInv h hl ho
    · exact enterRun_regsInv hp h hl he

/-- R92: acceptance itself. -/
theorem RegsInv.with_accepted {p : Params} {r : Regs} (h : RegsInv p r) (t : U64) :
    RegsInv p { r with lastAccept := t, lastValid := true } := by
  obtain ⟨hc, hm, -⟩ := regsInv_iff.1 h
  exact regsInv_iff.2 ⟨fun | .led => hc .led | .mag => hc .mag, ⟨hm.canonical, hm.legacy⟩, fun hv => by cases hv⟩

theorem buttonPhase_regsInv {p : Params} {r : Regs} (hp : p.WellFormed) (h : RegsInv p r) (btn : Bool) :
    RegsInv p (buttonPhase p btn r) := by
  cases ha : acceptsEdge p btn r
  · rw [buttonPhase_quiet p btn r ha]
    exact h.of_unconstrained
  · rw [buttonPhase_accepted p btn r ha]
    exact controllerAction_regsInv hp (h.with_accepted r.now).of_unconstrained

/-! ### P3, P4 and P5 -/

/-- R117: an install keeps R30, whatever its arguments. -/
theorem install_regsInv {p : Params} {r : Regs} (h : RegsInv p r) (lf ld mf md : Nat) :
    RegsInv p (install lf ld mf md r) := by
  cases hacc : acceptable lf ld mf md
  · rw [install_rejected _ _ _ _ _ hacc]
    exact h.of_unconstrained
  · rw [install_accepted _ _ _ _ _ hacc]
    obtain ⟨hc, hm, ha⟩ := regsInv_iff.1 h
    simp only [acceptable, Bool.and_eq_true] at hacc
    obtain ⟨hled, hmag⟩ := hacc
    exact regsInv_iff.2 ⟨fun | .led => withCodes_chanInv (hc .led) hled | .mag => withCodes_chanInv (hc .mag) hmag,
      ⟨hm.canonical, hm.legacy⟩, ha⟩

theorem hostRegs_regsInv {p : Params} {r : Regs} (h : RegsInv p r) (i : Instr) : RegsInv p (hostRegs p i r) := by
  cases i
  case cmdApply => exact install_regsInv h _ _ _ _
  case cmdDefaults => exact install_regsInv h _ _ _ _
  all_goals exact h.of_unconstrained

/-- R127. -/
theorem idlePhase_regsInv {p : Params} {r : Regs} (h : RegsInv p r) : RegsInv p (idlePhase p r) := by
  cases hdue : idleDue p r
  · rwa [idlePhase_quiet p r hdue]
  · have hl : p.legacyModes = true := by
      simp only [idleDue, Bool.and_eq_true] at hdue
      obtain ⟨⟨hl, -⟩, -⟩ := hdue
      exact hl
    obtain ⟨hc, -, ha⟩ := regsInv_iff.1 h
    rw [idlePhase_due p r hdue]
    exact stopBoth_regsInv (r := { r with mode := .allOff, en := false, magOvr := true })
      (enabled := fun c => enEff c r) (fun | .led => hc .led | .mag => hc .mag) rfl
      (.of_legacy hl (.inr (.inr ⟨rfl, rfl, rfl⟩))) ha

/-! ### The tick -/

theorem afterTick_regs (s : State) : (afterTick s).regs =
    regsAfterHost s.params
      (hostRegs s.params (comingTxn s) (regsBeforeHost s.params (nextInput s).pins.btn s.regs)) := rfl

/-- P0 to P2 keep R30. -/
theorem regsBeforeHost_regsInv {p : Params} {r : Regs} (hp : p.WellFormed) (h : RegsInv p r) (btn : Bool) :
    RegsInv p (regsBeforeHost p btn r) :=
  buttonPhase_regsInv hp (timerPhase_regsInv h.of_unconstrained) btn

/-- P4 and P5 keep R30. -/
theorem regsAfterHost_regsInv {p : Params} {r : Regs} (h : RegsInv p r) : RegsInv p (regsAfterHost p r) :=
  (idlePhase_regsInv h).of_unconstrained

theorem afterTick_regsInv {s : State} (h : GoodState s) : RegsInv s.params (afterTick s).regs :=
  regsAfterHost_regsInv (hostRegs_regsInv (regsBeforeHost_regsInv h.params h.regs _) _)

/-- Settles O10: a reset tick ends in a reset state, any other tick in what its phases, each of which keeps R30, make
of the registers. -/
theorem everyStepKeepsTheGoodState : Obligations.EveryStepKeepsTheGoodState := by
  intro s t h hstep
  obtain ⟨-, rfl⟩ | ⟨-, rfl⟩ := step_cases hstep
  · exact { params := h.params, regs := resetRegs_regsInv _ h.params, between := rfl }
  · exact { params := h.params, regs := afterTick_regsInv h, between := rfl }

/-! ### What P3, P4 and P5 leave alone -/

@[simp] theorem hostRegs_now (p : Params) (i : Instr) (r : Regs) : (hostRegs p i r).now = r.now := by
  obtain ⟨-, h, -⟩ := hostRegs_frame p i r
  exact h

@[simp] theorem hostRegs_lastAccept (p : Params) (i : Instr) (r : Regs) :
    (hostRegs p i r).lastAccept = r.lastAccept := by
  obtain ⟨-, -, -, -, -, -, -, h, -⟩ := hostRegs_frame p i r
  exact h

@[simp] theorem hostRegs_lastValid (p : Params) (i : Instr) (r : Regs) : (hostRegs p i r).lastValid = r.lastValid := by
  obtain ⟨-, -, -, -, -, -, -, -, h⟩ := hostRegs_frame p i r
  exact h

@[simp] theorem chan_hostRegs_level (c : Channel) (p : Params) (i : Instr) (r : Regs) :
    (chan c (hostRegs p i r)).level = (chan c r).level := by
  obtain ⟨hc, -⟩ := hostRegs_frame p i r
  obtain ⟨-, h, -, -⟩ := hc c
  exact h

@[simp] theorem chan_hostRegs_fail (c : Channel) (p : Params) (i : Instr) (r : Regs) :
    (chan c (hostRegs p i r)).fail = (chan c r).fail := by
  obtain ⟨hc, -⟩ := hostRegs_frame p i r
  obtain ⟨-, -, -, h⟩ := hc c
  exact h

@[simp] theorem chan_regsAfterHost (c : Channel) (p : Params) (r : Regs) :
    chan c (regsAfterHost p r) = chan c (idlePhase p r) := chan_with_now c _ _

@[simp] theorem regsAfterHost_now (p : Params) (r : Regs) : (regsAfterHost p r).now = r.now + 1 :=
  congrArg (· + 1) (idlePhase_now p r)

@[simp] theorem regsAfterHost_lastAccept (p : Params) (r : Regs) : (regsAfterHost p r).lastAccept = r.lastAccept :=
  idlePhase_lastAccept p r

@[simp] theorem regsAfterHost_lastValid (p : Params) (r : Regs) : (regsAfterHost p r).lastValid = r.lastValid :=
  idlePhase_lastValid p r

@[simp] theorem regsAfterHost_reject (p : Params) (r : Regs) : (regsAfterHost p r).reject = r.reject :=
  idlePhase_reject p r

@[simp] theorem regsAfterHost_saveReq (p : Params) (r : Regs) : (regsAfterHost p r).saveReq = r.saveReq :=
  idlePhase_saveReq p r

/-! ### What P0, P1 and P2 make of the registers -/

@[simp] theorem chan_clearSaveReq (c : Channel) (r : Regs) : chan c (clearSaveReq r) = chan c r :=
  chan_with_saveReq c r false

@[simp] theorem regsBeforeHost_now (p : Params) (btn : Bool) (r : Regs) : (regsBeforeHost p btn r).now = r.now := by
  rw [regsBeforeHost, buttonPhase_now, timerPhase_now]; rfl

@[simp] theorem regsBeforeHost_reject (p : Params) (btn : Bool) (r : Regs) :
    (regsBeforeHost p btn r).reject = r.reject := by
  rw [regsBeforeHost, buttonPhase_reject, timerPhase_reject]; rfl

@[simp] theorem regsBeforeHost_saveReq (p : Params) (btn : Bool) (r : Regs) :
    (regsBeforeHost p btn r).saveReq = false := by
  rw [regsBeforeHost, buttonPhase_saveReq, timerPhase_saveReq]; rfl

@[simp] theorem chan_regsBeforeHost_fail (c : Channel) (p : Params) (btn : Bool) (r : Regs) :
    (chan c (regsBeforeHost p btn r)).fail = (chan c r).fail := by
  rw [regsBeforeHost, chan_buttonPhase_fail, chan_timerPhase, countdownChan_fail, chan_clearSaveReq]

/-- P0 and P1 write nothing that P2 decides on. -/
theorem acceptsEdge_beforeButton (p : Params) (btn : Bool) (r : Regs) :
    acceptsEdge p btn (timerPhase (clearSaveReq r)) = acceptsEdge p btn r := by
  simp only [acceptsEdge, fallingEdge, passesDebounce, elapsedSince, timerPhase_btnPrev, timerPhase_lastValid,
    timerPhase_lastAccept, timerPhase_now]
  rfl

/-- P2 writes `LAST_ACCEPT` and `LAST_VALID` on an accepted edge alone (R92). -/
theorem regsBeforeHost_lastAccept (p : Params) (btn : Bool) (r : Regs) :
    (regsBeforeHost p btn r).lastAccept = if acceptsEdge p btn r then r.now else r.lastAccept := by
  rw [regsBeforeHost, ← acceptsEdge_beforeButton]
  cases ha : acceptsEdge p btn (timerPhase (clearSaveReq r))
  · rw [buttonPhase_quiet p btn _ ha]
    exact timerPhase_lastAccept _
  · rw [buttonPhase_accepted p btn _ ha, controllerAction_lastAccept]
    exact timerPhase_now _

theorem regsBeforeHost_lastValid (p : Params) (btn : Bool) (r : Regs) :
    (regsBeforeHost p btn r).lastValid = (acceptsEdge p btn r || r.lastValid) := by
  rw [regsBeforeHost, ← acceptsEdge_beforeButton]
  cases ha : acceptsEdge p btn (timerPhase (clearSaveReq r))
  · rw [buttonPhase_quiet p btn _ ha]
    exact timerPhase_lastValid _
  · rw [buttonPhase_accepted p btn _ ha, controllerAction_lastValid]
    rfl

/-! ### The last accepted edge (R30, item 10, second half) -/

theorem afterTick_now (s : State) : (afterTick s).regs.now = s.regs.now + 1 := by
  simp [afterTick_regs]

theorem afterTick_lastAccept (s : State) :
    (afterTick s).regs.lastAccept = if edgeAccepted s then s.regs.now else s.regs.lastAccept := by
  rw [afterTick_regs, regsAfterHost_lastAccept, hostRegs_lastAccept, regsBeforeHost_lastAccept, edgeAccepted]

theorem afterTick_lastValid (s : State) :
    (afterTick s).regs.lastValid = (edgeAccepted s || s.regs.lastValid) := by
  rw [afterTick_regs, regsAfterHost_lastValid, hostRegs_lastValid, regsBeforeHost_lastValid, edgeAccepted]

/-- Settles O11: `NOW` goes up by one, and `LAST_ACCEPT` is the old one or the old `NOW`. -/
theorem lastAcceptStaysBeforeNow : Obligations.LastAcceptStaysBeforeNow := by
  intro s t hbefore hwrap hstep hvalid
  obtain ⟨-, rfl⟩ | ⟨-, rfl⟩ := step_cases hstep
  · simp at hvalid
  · have hnow : (afterTick s).regs.now.toNat = s.regs.now.toNat + 1 := by
      rw [afterTick_now]
      bv_omega
    rw [hnow, afterTick_lastAccept]
    cases he : edgeAccepted s
    · have hold : s.regs.lastValid = true := by simpa [afterTick_lastValid, he] using hvalid
      exact Nat.lt_succ_of_lt (hbefore hold)
    · exact Nat.lt_succ_self _

/-! ### Runs -/

theorem run_succ_of_step (M : Host.Core) {s t : M.State} (h : M.step s = .next t) (n : Nat) :
    M.run (n + 1) s = M.run n t := by
  rw [Host.Core.run, h]

theorem runTicks_succ {s t : State} (h : step s = .next t) (n : Nat) : runTicks (n + 1) s = runTicks n t :=
  run_succ_of_step Sys2Proof.core h n

/-- What every tick carries over, with the number of ticks in it, from the start of a run holds at its end; and every
run has an end. -/
theorem runTicks_induction {I : Nat → State → Prop} (hstep : ∀ k s t, I k s → step s = .next t → I (k + 1) t)
    (n k : Nat) (s : State) (h : I k s) : ∃ t, runTicks n s = .next t ∧ I (k + n) t := by
  induction n generalizing k s with
  | zero => exact ⟨s, rfl, h⟩
  | succ n ih =>
    have hs := step_eq s
    obtain ⟨t, ht, hI⟩ := ih (k + 1) _ (hstep k s _ h hs)
    exact ⟨t, (runTicks_succ hs n).trans ht, by rwa [Nat.add_right_comm] at hI⟩

/-- All of R30 after `k` ticks, with what the second half of item 10 needs from one tick to the next: `NOW` counts at
most the ticks that have run. -/
structure RunInv (p : Params) (k : Nat) (s : State) : Prop where
  good : GoodState s
  params : s.params = p
  nowBound : s.regs.now.toNat ≤ k
  accepted : k < 2 ^ 64 → acceptedBeforeNow s.regs

theorem step_now_le {s t : State} (h : step s = .next t) : t.regs.now.toNat ≤ s.regs.now.toNat + 1 := by
  obtain ⟨-, rfl⟩ | ⟨-, rfl⟩ := step_cases h
  · simp
  · rw [afterTick_now, BitVec.toNat_add]
    exact Nat.mod_le _ _

theorem RunInv.next {p : Params} {k : Nat} {s t : State} (h : RunInv p k s) (hs : step s = .next t) :
    RunInv p (k + 1) t :=
  { good := everyStepKeepsTheGoodState s t h.good hs
    params := (parametersNeverChange s t hs).trans h.params
    nowBound := (step_now_le hs).trans (Nat.succ_le_succ h.nowBound)
    accepted := fun hk => by
      have hnow := h.nowBound
      exact lastAcceptStaysBeforeNow s t (h.accepted (by omega)) (by omega) hs }

theorem resetWith_runInv {p : Params} (f : Straps) (l : List TickInput) (hp : p.WellFormed) :
    RunInv p 0 { State.resetWith p f with inputs := l } :=
  { good := { params := hp, regs := resetRegs_regsInv f hp, between := rfl }
    params := rfl
    nowBound := by simp
    accepted := fun _ hv => by simp at hv }

/-- Settles O12, by induction on the ticks of the run. -/
theorem everyRunFromResetMeetsR30 : Obligations.EveryRunFromResetMeetsR30 := by
  intro p f l n hp
  obtain ⟨t, ht, hI⟩ :=
    runTicks_induction (I := RunInv p) (fun _ _ _ h hs => h.next hs) n 0 _ (resetWith_runInv f l hp)
  rw [Nat.zero_add] at hI
  have hregs : RegsInv p t.regs := hI.params ▸ hI.good.regs
  exact ⟨t, ht, hI.params, hregs, hI.accepted, hregs.disabled_low⟩

/-! ### Failed and disabled channels -/

theorem chan_afterTick_fail (c : Channel) (s : State) : (chan c (afterTick s).regs).fail = (chan c s.regs).fail := by
  simp [afterTick_regs]

/-- Settles O18: no phase writes `FAIL[c]` (R17), and R30 says the rest of the state after the tick. -/
theorem failedChannelStaysHalted : Obligations.FailedChannelStaysHalted := by
  intro s t c hstep hr
  have hfail : (chan c t.regs).fail = (chan c s.regs).fail := by
    rw [step_tick s hr] at hstep
    cases hstep
    exact chan_afterTick_fail c s
  refine ⟨hfail, fun hgood hf => ?_⟩
  exact (everyStepKeepsTheGoodState s t hgood hstep).regs.failed_halted (hfail.trans hf)

/-- Only an expiry raises a level (R83), and only that of an armed channel. -/
theorem chan_timerPhase_low {r : Regs} {c : Channel} (ha : (chan c r).armed = false) (hl : (chan c r).level = false) :
    (chan c (timerPhase r)).level = false := by
  have hmay : mayToggle c r = false := by simp [mayToggle, ha]
  rw [chan_timerPhase, hmay, countdownChan]
  split
  · exact hl
  · split <;> exact hl

theorem startedIf_low {e : Bool} {x : ChannelRegs} (hl : x.level = false) : (startedIf e x).level = false := by
  unfold startedIf
  split
  · rfl
  · exact hl

theorem chan_stop_both_low (c : Channel) (r : Regs) : (chan c (stop .mag (stop .led r))).level = false := by
  rw [chan_stop_both]

/-- No action of the controller raises a level: a stop (R87) and a start (R86) clear it, nothing else writes it. -/
theorem chan_controllerAction_low {p : Params} {r : Regs} {c : Channel} (hl : (chan c r).level = false) :
    (chan c (controllerAction p r)).level = false := by
  rcases controllerAction_cases p r with h | h | h | h | h | h <;> rw [h]
  · exact chan_stop_both_low c _
  · rw [enable, chan_start_both, chan_with_en]
    exact startedIf_low hl
  · cases c
    · exact hl
    · rfl
  · exact chan_stop_both_low c _
  · rw [enterRun, chan_with_runSince, chan_start_both]
    exact startedIf_low (by cases c <;> exact hl)
  · exact hl

theorem chan_buttonPhase_low {p : Params} {btn : Bool} {r : Regs} {c : Channel} (hl : (chan c r).level = false) :
    (chan c (buttonPhase p btn r)).level = false := by
  cases ha : acceptsEdge p btn r
  · rwa [buttonPhase_quiet p btn r ha, chan_with_btnPrev]
  · rw [buttonPhase_accepted p btn r ha]
    exact chan_controllerAction_low (by cases c <;> exact hl)

theorem chan_idlePhase_low {p : Params} {r : Regs} {c : Channel} (hl : (chan c r).level = false) :
    (chan c (idlePhase p r)).level = false := by
  cases hdue : idleDue p r
  · rwa [idlePhase_quiet p r hdue]
  · rw [idlePhase_due p r hdue]
    exact chan_stop_both_low c _

/-- A tick from a channel halted at LOW ends with it at LOW, also when it starts in that tick. -/
theorem chan_afterTick_low {s : State} {c : Channel} (ha : (chan c s.regs).armed = false)
    (hl : (chan c s.regs).level = false) : (chan c (afterTick s).regs).level = false := by
  rw [afterTick_regs, chan_regsAfterHost]
  apply chan_idlePhase_low
  rw [chan_hostRegs_level]
  exact chan_buttonPhase_low (chan_timerPhase_low (by rwa [chan_clearSaveReq]) (by rwa [chan_clearSaveReq]))

theorem linesInactive_of_low {s : State} (h : ∀ c, (chan c s.regs).level = false) : linesInactive s :=
  ⟨h .led, fun _ hx => (List.eq_of_mem_replicate hx).trans (h .mag)⟩

/-- Settles O17: R30 gives the levels before the tick; no phase raises that of a halted channel, and reset clears it. -/
theorem disabledLinesStayInactive : Obligations.DisabledLinesStayInactive := by
  intro s t hgood hen hstep
  have hlow := hgood.regs.disabled_low hen
  refine ⟨linesInactive_of_low fun c => (hlow c).2, linesInactive_of_low fun c => ?_⟩
  obtain ⟨-, rfl⟩ | ⟨-, rfl⟩ := step_cases hstep
  · exact (chan_resetRegs_timer c _ _).1
  · exact chan_afterTick_low (hlow c).1 (hlow c).2

/-! ### The two flags of an install (R25, R27) -/

/-- Whether a transaction is an install command that R117 accepts in the registers it finds. -/
def acceptsInstall (p : Params) (r : Regs) : Instr → Bool
  | .cmdApply => acceptable r.stgLedFreq.toNat r.stgLedDuty.toNat r.stgMagFreq.toNat r.stgMagDuty.toNat
  | .cmdDefaults =>
    acceptable p.defLedFreq.toNat p.defLedDuty.toNat p.defMagFreq.toNat p.defMagDuty.toNat
  | _ => false

theorem installAccepted_eq (s : State) : installAccepted s =
    acceptsInstall s.params (regsBeforeHost s.params (nextInput s).pins.btn s.regs) (comingTxn s) := by
  unfold installAccepted
  cases comingTxn s <;> rfl

theorem install_saveReq (lf ld mf md : Nat) (r : Regs) :
    (install lf ld mf md r).saveReq = (acceptable lf ld mf md || r.saveReq) := by
  cases h : acceptable lf ld mf md
  · rw [install_rejected _ _ _ _ _ h]; rfl
  · rw [install_accepted _ _ _ _ _ h]; rfl

theorem install_reject (lf ld mf md : Nat) (r : Regs) :
    (install lf ld mf md r).reject = !acceptable lf ld mf md := by
  cases h : acceptable lf ld mf md
  · rw [install_rejected _ _ _ _ _ h]; rfl
  · rw [install_accepted _ _ _ _ _ h]; rfl

/-- P3 raises `SAVE_REQ` in an accepted install and never clears it. -/
theorem hostRegs_saveReq (p : Params) (i : Instr) (r : Regs) :
    (hostRegs p i r).saveReq = (acceptsInstall p r i || r.saveReq) := by
  cases i
  case cmdApply => exact install_saveReq _ _ _ _ r
  case cmdDefaults => exact install_saveReq _ _ _ _ r
  all_goals rfl

/-- P3 writes `REJECT` in an install command alone. -/
theorem hostRegs_reject (p : Params) (i : Instr) (r : Regs) :
    (hostRegs p i r).reject = if i = .cmdApply ∨ i = .cmdDefaults then !acceptsInstall p r i else r.reject := by
  cases i
  case cmdApply => exact install_reject _ _ _ _ r
  case cmdDefaults => exact install_reject _ _ _ _ r
  all_goals rfl

theorem afterTick_saveReq (s : State) : (afterTick s).regs.saveReq = installAccepted s := by
  rw [afterTick_regs, regsAfterHost_saveReq, hostRegs_saveReq, regsBeforeHost_saveReq, Bool.or_false,
    installAccepted_eq]

theorem afterTick_reject (s : State) :
    (afterTick s).regs.reject = if isInstall s then !installAccepted s else s.regs.reject := by
  rw [afterTick_regs, regsAfterHost_reject, hostRegs_reject, regsBeforeHost_reject, installAccepted_eq]
  simp [isInstall]

/-- Settles O44: P0 clears `SAVE_REQ`, and only an accepted install raises it again. -/
theorem saveReqMarksAcceptedInstalls : Obligations.SaveReqMarksAcceptedInstalls := by
  intro s t hstep
  refine ⟨?_, rfl⟩
  obtain ⟨hr, rfl⟩ | ⟨hr, rfl⟩ := step_cases hstep
  · simp [hr]
  · simp [hr, afterTick_saveReq]

/-- Settles O45: reset clears `REJECT`, and of the phases only P3 writes it, in an install command. -/
theorem rejectTellsTheLastCommand : Obligations.RejectTellsTheLastCommand := by
  intro s t hstep
  obtain ⟨hr, rfl⟩ | ⟨hr, rfl⟩ := step_cases hstep
  · simp [hr]
  · simp +contextual [hr, afterTick_reject]

/-! ### Outputs and reads -/

/-- Settles O21: `outputs` is built from the registers so. -/
theorem outputsAreTheLevels : Obligations.OutputsAreTheLevels := fun _ => ⟨rfl, rfl, rfl⟩

/-- The output `rdata` of a tick that is no reset tick is what its transaction reads in the registers at its start. -/
theorem outputs_rdata (s : State) :
    (outputs s).rdata = if isResetTick s then 0 else readData (comingTxn s) s.regs := by
  have h : (outputs s).rdata = rdataOf s.regs (nextInput s) := rfl
  rw [h, rdataOf, isResetTick, comingTxn]
  cases (nextInput s).pins.rst
  · cases decode (nextInput s).host <;> rfl
  · rfl

/-- Every transaction but a read drives 0. -/
theorem readData_of_not_rd {i : Instr} (h : ∀ a, i ≠ .rd a) (r : Regs) : readData i r = 0 := by
  cases i
  case rd a => exact absurd rfl (h a)
  all_goals rfl

/-- Settles O22: the tick records on `rdata` what `outputs_rdata` says of its transaction. -/
theorem readDataIsTakenAtTheStartOfTheTick : Obligations.ReadDataIsTakenAtTheStartOfTheTick := by
  refine ⟨fun _ _ => rfl, fun s t hstep => ⟨?_, ?_, ?_, ?_⟩⟩
  · obtain ⟨hr, rfl⟩ | ⟨hr, rfl⟩ := step_cases hstep
    · simp [outputs_rdata, hr]
    · simp [outputs_rdata, hr, afterTick]
  · intro hr
    simp [outputs_rdata, hr]
  · intro a hr htxn
    simp [outputs_rdata, hr, htxn, readData]
  · intro hno
    simp [outputs_rdata, readData_of_not_rd hno]

/-! ### The status word (R34) -/

theorem bitAt_getLsbD {n : Nat} (hn : n < 32) (b : Bool) (k : Nat) :
    (bitAt n b).getLsbD k = (decide (k = n) && b) := by
  simp only [bitAt, BitVec.getLsbD_shiftLeft, BitVec.getLsbD_setWidth, BitVec.getLsbD_ofBool]
  rcases Nat.lt_trichotomy k n with hlt | rfl | hgt
  · simp [hlt, hlt.ne]
  · simp [hn]
  · simp [hgt.ne', Nat.sub_ne_zero_of_lt hgt]

/-- Bit `k` of the `MODE` field, at 11:10. -/
theorem modeField_getLsbD (m : Mode) (k : Nat) :
    ((m.code.setWidth 32 : U32) <<< 10).getLsbD k = (decide (10 ≤ k) && m.code.getLsbD (k - 10)) := by
  simp only [BitVec.getLsbD_shiftLeft, BitVec.getLsbD_setWidth]
  rcases Nat.lt_or_ge k 12 with hlt | hge
  · have h32 : k < 32 := by omega
    have h32' : k - 10 < 32 := by omega
    by_cases h10 : k < 10
    · simp [h10]
    · simp [h10, Nat.not_lt.1 h10, h32, h32']
  · simp [BitVec.getLsbD_of_ge m.code (k - 10) (by omega)]

/-- Every bit of `STATUS` (R34). -/
theorem statusWord_getLsbD (r : Regs) (k : Nat) : (statusWord r).getLsbD k =
    (decide (k = 0) && r.en || decide (k = 1) && r.led.level || decide (k = 2) && r.mag.level ||
      decide (k = 3) && r.led.armed || decide (k = 4) && r.mag.armed || decide (k = 5) && r.led.fail ||
      decide (k = 6) && r.mag.fail || decide (k = 7) && r.reject || decide (k = 8) && r.magOvr ||
      decide (k = 9) && r.saveReq || decide (10 ≤ k) && r.mode.code.getLsbD (k - 10)) := by
  simp (disch := decide) only [statusWord, BitVec.getLsbD_or, bitAt_getLsbD, modeField_getLsbD]

theorem statusWord_mode (r : Regs) : (statusWord r).extractLsb' 10 2 = r.mode.code := by
  apply BitVec.eq_of_getLsbD_eq
  intro i hi
  have hlow : ∀ n < 10, 10 + i ≠ n := by omega
  simp [statusWord_getLsbD, hi, hlow]

theorem statusWord_high (r : Regs) {k : Nat} (h : 12 ≤ k) : (statusWord r).getLsbD k = false := by
  have hlow : ∀ n < 10, k ≠ n := by omega
  simp [statusWord_getLsbD, hlow, BitVec.getLsbD_of_ge r.mode.code (k - 10) (by omega)]

/-- Settles O35: each bit by `statusWord_getLsbD`. -/
theorem statusWordBits : Obligations.StatusWordBits := by
  refine ⟨fun _ => rfl, ⟨rfl, rfl, rfl, rfl⟩, fun r => ?_⟩
  refine ⟨?_, ?_, ?_, ?_, ?_, ?_, ?_, ?_, ?_, ?_, statusWord_mode r, fun _ => statusWord_high r⟩ <;>
    rw [statusWord_getLsbD] <;> simp

end Sys2Proof.Machine
end

section
/-! PROOFS. The family `20_memory.md`: the write to the address space, and what a tick makes of a channel that it
neither stops nor restarts. -/

namespace Sys2Proof.Machine

/-! ### Writes (R42) -/

/-- R58, rows 3 to 10: the word of a write is decoded by its address and its data alone. -/
theorem decode_txnWord_write (a : RegName) (v : U32) : decode (txnWord 2 a.addr v) = decodeWrite a v := by
  simp [decode]

/-- The transaction of a write acts on the registers as `MemWrite` does. -/
theorem hostRegs_decodeWrite (p : Params) (a : RegName) (v : U32) (r : Regs) :
    hostRegs p (decodeWrite a v) r = memWrite p a v r := by
  cases a
  case cmd =>
    simp only [decodeWrite, decodeCommand, memWrite]
    split
    · rfl
    · split <;> rfl
  all_goals rfl

theorem decodeWrite_ne_rd (a : RegName) (v : U32) (b : RegName) : decodeWrite a v ≠ .rd b := by
  cases a
  case cmd =>
    simp only [decodeWrite, decodeCommand]
    split
    · simp
    · split <;> simp
  all_goals simp [decodeWrite]

/-- R35: a command value other than 1 and 2 does nothing. -/
theorem memWrite_cmd_reserved (p : Params) {v : U32} (r : Regs) (h1 : v ≠ 1) (h2 : v ≠ 2) :
    memWrite p .cmd v r = r :=
  (if_neg h1).trans (if_neg h2)

/-- R60: a write to a read-only or reserved address does nothing. -/
theorem memWrite_ignored (p : Params) {a : RegName} (v : U32) (r : Regs) (h : isIgnoredOnWrite a = true) :
    memWrite p a v r = r := by
  cases a
  case cmd | stgLedFreq | stgLedDuty | stgMagFreq | stgMagDuty => cases h
  all_goals rfl

/-- Settles O43: the word decodes to the transaction of its address, which acts as `MemWrite` and is no read; then each
case of `MemWrite`. -/
theorem writeTransactionIsMemWrite : Obligations.WriteTransactionIsMemWrite := by
  refine ⟨fun a v s => ?_, fun p v r => ?_⟩
  · rw [decode_txnWord_write, exec_eq, hostRegs_decodeWrite, readData_of_not_rd (decodeWrite_ne_rd a v)]
  · exact ⟨rfl, rfl, rfl, rfl, rfl, rfl, memWrite_cmd_reserved p r, fun _ => memWrite_ignored p v r⟩

/-! ### What P3 leaves of a channel and of the mode sequencer -/

@[simp] theorem chan_hostRegs_cnt (c : Channel) (p : Params) (i : Instr) (r : Regs) :
    (chan c (hostRegs p i r)).cnt = (chan c r).cnt := by
  obtain ⟨hc, -⟩ := hostRegs_frame p i r
  obtain ⟨h, -⟩ := hc c
  exact h

@[simp] theorem chan_hostRegs_armed (c : Channel) (p : Params) (i : Instr) (r : Regs) :
    (chan c (hostRegs p i r)).armed = (chan c r).armed := by
  obtain ⟨hc, -⟩ := hostRegs_frame p i r
  obtain ⟨-, -, h, -⟩ := hc c
  exact h

/-- What the condition of R127 reads. -/
theorem idleDue_congr (p : Params) {r r' : Regs} (hmode : r'.mode = r.mode) (hnow : r'.now = r.now)
    (hsince : r'.runSince = r.runSince) : idleDue p r' = idleDue p r := by
  rw [idleDue, idleDue, elapsedSince, elapsedSince, hmode, hnow, hsince]

/-- No transaction changes whether the idle timeout is due (R127). -/
@[simp] theorem idleDue_hostRegs (p : Params) (i : Instr) (r : Regs) :
    idleDue p (hostRegs p i r) = idleDue p r := by
  obtain ⟨-, hnow, -, -, hmode, hsince, -⟩ := hostRegs_frame p i r
  exact idleDue_congr p hmode hnow hsince

/-! ### When the idle timeout fires (R127, R153) -/

/-- P0 and P1 write nothing that P4 decides on. -/
theorem idleDue_beforeButton (p : Params) (r : Regs) : idleDue p (timerPhase (clearSaveReq r)) = idleDue p r :=
  idleDue_congr p (timerPhase_mode _) (timerPhase_now _) (timerPhase_runSince _)

/-- After an accepted edge the timeout is not due: the edge leaves RUN, or it enters RUN in this very tick. -/
theorem idleDue_controllerAction {p : Params} (r : Regs) (hp : 1 ≤ p.idleTimeoutUs) :
    idleDue p (controllerAction p r) = false := by
  cases hl : p.legacyModes
  · exact idleDue_canonical p _ hl
  · rw [controllerAction_legacy p r hl, advanceMode]
    cases hm : r.mode
    case off => simp [idleDue, hm]
    case run => simp [idleDue, runToMagnetOff]
    case magnetOff => simp [idleDue, magnetOffToAllOff]
    case allOff =>
      have hnone : ¬ p.idleTimeoutUs ≤ 0 := by omega
      simp [idleDue, enterRun, loadBaseFreq, elapsedSince, hnone]

/-- What P4 finds is what `idleFires` says at the start of the tick. -/
theorem idleDue_after_hostRegs {s : State} (hp : s.params.WellFormed) :
    idleDue s.params (hostRegs s.params (comingTxn s)
      (regsBeforeHost s.params (nextInput s).pins.btn s.regs)) = idleFires s := by
  obtain ⟨-, -, -, -, -, -, -, hidle, -⟩ := hp
  rw [idleDue_hostRegs, regsBeforeHost, idleFires, edgeAccepted, ← acceptsEdge_beforeButton]
  cases ha : acceptsEdge s.params (nextInput s).pins.btn (timerPhase (clearSaveReq s.regs))
  · rw [buttonPhase_quiet _ _ _ ha, Bool.not_false, Bool.and_true]
    exact (idleDue_congr _ rfl rfl rfl).trans (idleDue_beforeButton _ _)
  · rw [buttonPhase_accepted _ _ _ ha, idleDue_controllerAction _ hidle, Bool.not_true, Bool.and_false]

/-! ### A tick that neither stops nor restarts a channel -/

/-- R124 is the one accepted edge that leaves a channel alone, and the channel is LED. -/
theorem touchesChannel_eq_false {c : Channel} {s : State} : touchesChannel c s = false ↔
    isResetTick s = false ∧ idleFires s = false ∧
      (edgeAccepted s = true → s.params.legacyModes = true ∧ s.regs.mode = .run ∧ c = .led) := by
  simp [touchesChannel, and_assoc]

/-- P2 on such a channel: no edge is accepted, or the edge of R124 stops the magnet channel alone. -/
theorem chan_buttonPhase_untouched {c : Channel} {p : Params} {btn : Bool} {r : Regs}
    (h : acceptsEdge p btn r = true → p.legacyModes = true ∧ r.mode = .run ∧ c = .led) :
    chan c (buttonPhase p btn r) = chan c r := by
  cases ha : acceptsEdge p btn r
  · rw [buttonPhase_quiet p btn r ha, chan_with_btnPrev]
  · obtain ⟨hl, hm, rfl⟩ := h ha
    rw [buttonPhase_accepted p btn r ha, controllerAction_legacy p _ hl, advanceMode, hm]
    rfl

/-- P0 to P2 on such a channel are its countdown. -/
theorem chan_regsBeforeHost_untouched {c : Channel} {p : Params} {btn : Bool} {r : Regs}
    (h : acceptsEdge p btn r = true → p.legacyModes = true ∧ r.mode = .run ∧ c = .led) :
    chan c (regsBeforeHost p btn r) = countdownChan (mayToggle c r) (chan c r) := by
  have hmay : mayToggle c (clearSaveReq r) = mayToggle c r := by cases c <;> rfl
  rw [regsBeforeHost, chan_buttonPhase_untouched, chan_timerPhase, hmay, chan_clearSaveReq]
  rw [acceptsEdge_beforeButton, timerPhase_mode]
  exact h

/-- A whole tick makes of the timer of such a channel what its countdown does, whatever the transaction. The guard of
R83 is `ARMED[c]` in a good state. -/
theorem chan_afterTick_untouched {s : State} {c : Channel} (hg : GoodState s) (ht : touchesChannel c s = false) :
    (chan c (afterTick s).regs).cnt = (countdownChan (chan c s.regs).armed (chan c s.regs)).cnt ∧
    (chan c (afterTick s).regs).level = (countdownChan (chan c s.regs).armed (chan c s.regs)).level ∧
    (chan c (afterTick s).regs).armed = (chan c s.regs).armed := by
  obtain ⟨-, hidle, hedge⟩ := touchesChannel_eq_false.1 ht
  have hdue := (idleDue_after_hostRegs hg.params).trans hidle
  rw [afterTick_regs, chan_regsAfterHost, idlePhase_quiet _ _ hdue, chan_hostRegs_cnt, chan_hostRegs_level,
    chan_hostRegs_armed, chan_regsBeforeHost_untouched hedge, hg.regs.mayToggle_eq_armed, countdownChan_armed]
  exact ⟨rfl, rfl, rfl⟩

/-- R83: the toggle loads the duration of the new level from the pair in force. -/
theorem toggled_cnt (x : ChannelRegs) : (toggled x).cnt = if x.level then x.lowUs else x.highUs := by
  cases h : x.level <;> simp [toggled, durationOf, h]

/-- Settles O48: the tick's own countdown, of the channel as it stood before the tick, by its count. -/
theorem newPairWaitsForTheNextExpiry : Obligations.NewPairWaitsForTheNextExpiry := by
  intro s t c hg ht hstep
  obtain ⟨hr, -⟩ := touchesChannel_eq_false.1 ht
  rw [step_tick s hr] at hstep
  cases hstep
  obtain ⟨hcnt, hlevel, -⟩ := chan_afterTick_untouched hg ht
  rw [hcnt, hlevel]
  refine ⟨fun h2 => ?_, fun h1 ha => ?_⟩
  · rw [countdownChan_counting _ _ h2]
    exact ⟨by bv_omega, rfl⟩
  · rw [ha, countdownChan_expiry _ h1]
    exact ⟨rfl, toggled_cnt _⟩

end Sys2Proof.Machine
end

section
/-! PROOFS. The family `30_encoding.md`: the decoder by the operation of the word, and the opcode table read field by
field. -/

namespace Sys2Proof.Machine

/-! ### The decoder, by the operation (R56, R58) -/

theorem opField_cases (t : TxnWord) : opField t = 0 ∨ opField t = 1 ∨ opField t = 2 ∨ opField t = 3 := by
  have h : ∀ o : BitVec 2, o = 0 ∨ o = 1 ∨ o = 2 ∨ o = 3 := by decide
  exact h (opField t)

theorem decode_nop {t : TxnWord} (h : opField t = 0) : decode t = .nop := by
  rw [decode, h]; rfl

theorem decode_rd {t : TxnWord} (h : opField t = 1) : decode t = .rd (RegName.ofAddr (addrField t)) := by
  rw [decode, h]; rfl

theorem decode_write {t : TxnWord} (h : opField t = 2) :
    decode t = decodeWrite (RegName.ofAddr (addrField t)) (dataField t) := by
  rw [decode, h]; rfl

theorem decode_rsvd3 {t : TxnWord} (h : opField t = 3) : decode t = .rsvd3 := by
  rw [decode, h]; rfl

theorem decode_txnWord_rd (a : Addr) (v : U32) : decode (txnWord 1 a v) = .rd (RegName.ofAddr a) := by
  rw [decode_rd (opField_txnWord 1 a v), addrField_txnWord]

/-! ### What a write decodes to (R58, rows 3 to 10) -/

/-- The two command values, in the literals `simp` writes. -/
theorem isReservedCommand_iff {v : U32} : isReservedCommand v = true ↔ ¬ v = 1#32 ∧ ¬ v = 2#32 := by
  simp [isReservedCommand]

/-- R35: a command value is `APPLY`, `DEFAULTS` or reserved. -/
theorem command_cases (v : U32) : v = 1 ∨ v = 2 ∨ isReservedCommand v = true := by
  rw [isReservedCommand_iff]
  tauto

theorem decodeCommand_reserved {v : U32} (h : isReservedCommand v = true) : decodeCommand v = .cmdRsvd v := by
  obtain ⟨h1, h2⟩ := isReservedCommand_iff.1 h
  exact (if_neg h1).trans (if_neg h2)

theorem decodeWrite_ignored {a : RegName} (v : U32) (h : isIgnoredOnWrite a = true) :
    decodeWrite a v = .wrIgn a v := by
  cases a
  case cmd | stgLedFreq | stgLedDuty | stgMagFreq | stgMagDuty => cases h
  all_goals rfl

theorem decodeWrite_wellFormed (a : RegName) (v : U32) : (decodeWrite a v).wellFormed = true := by
  cases a
  case cmd =>
    rcases command_cases v with rfl | rfl | h
    · rfl
    · rfl
    · rw [decodeWrite, decodeCommand_reserved h]
      exact h
  all_goals rfl

/-- A write uses all three fields of its word. -/
theorem encode_decodeWrite (a : RegName) (v : U32) : encode (decodeWrite a v) = txnWord 2 a.addr v := by
  cases a
  case cmd =>
    rcases command_cases v with rfl | rfl | h
    · rfl
    · rfl
    · rw [decodeWrite, decodeCommand_reserved h, encode]
  all_goals rfl

/-- Settles O56, by the row of the transaction: each write is decoded by its address; the operand of `CMD.RSVD` and of
`WR.IGN` is one that its row admits. -/
theorem decodeOfEncode : Obligations.DecodeOfEncode := by
  intro i hwf
  cases i
  case nop => exact decode_nop (opField_txnWord 0 0 0)
  case rd a => rw [encode, decode_txnWord_rd, ofAddr_addr]
  case cmdApply => exact decode_txnWord_write .cmd 1
  case cmdDefaults => exact decode_txnWord_write .cmd 2
  case cmdRsvd v => exact (decode_txnWord_write .cmd v).trans (decodeCommand_reserved hwf)
  case wrStgLedFreq v => exact decode_txnWord_write .stgLedFreq v
  case wrStgLedDuty v => exact decode_txnWord_write .stgLedDuty v
  case wrStgMagFreq v => exact decode_txnWord_write .stgMagFreq v
  case wrStgMagDuty v => exact decode_txnWord_write .stgMagDuty v
  case wrIgn a v => exact (decode_txnWord_write a v).trans (decodeWrite_ignored v hwf)
  case rsvd3 => exact decode_rsvd3 (opField_txnWord 3 0 0)

/-! ### The fields each operation uses (R56) -/

/-- Settles O58: the operation and the fields it uses decide the transaction; a read drives what `outputs_rdata` says,
and a write is the `MemWrite` of O43. -/
theorem ignoredBitsDoNotMatter : Obligations.IgnoredBitsDoNotMatter := by
  obtain ⟨hwrite, -⟩ := writeTransactionIsMemWrite
  refine fun a v => ⟨decode_nop (opField_txnWord 0 a v), decode_rsvd3 (opField_txnWord 3 a v), decode_txnWord_rd a v,
    addr_ofAddr a, fun s hr hhost => ?_, fun s => ?_⟩
  · have htxn : comingTxn s = .rd (RegName.ofAddr a) := by rw [comingTxn, hhost, decode_txnWord_rd]
    simp [outputs_rdata, hr, htxn, readData]
  · have h := hwrite (RegName.ofAddr a) v s
    rwa [addr_ofAddr] at h

/-- Settles O59: each word is evaluated. -/
theorem wordsOfR65 : Obligations.WordsOfR65 := by
  unfold Obligations.WordsOfR65
  decide

/-! ### The opcode table, field by field (R58) -/

/-- A row of the opcode table, by the mask and the pattern of each field. -/
def fieldRow (n : Mnemonic) (op : BitVec 2 × BitVec 2) (addr : Addr × Addr) (data : U32 × U32) : OpcodeRow :=
  ⟨n, txnWord op.1 addr.1 data.1, txnWord op.2 addr.2 data.2⟩

@[simp] theorem fieldRow_name (n : Mnemonic) (op : BitVec 2 × BitVec 2) (addr : Addr × Addr) (data : U32 × U32) :
    (fieldRow n op addr data).name = n := rfl

/-- A mask acts on each field apart. -/
theorem and_txnWord (t : TxnWord) (op : BitVec 2) (a : Addr) (v : U32) :
    t &&& txnWord op a v = txnWord (opField t &&& op) (addrField t &&& a) (dataField t &&& v) := by
  have h : txnWord (opField t) (addrField t) (dataField t) &&& txnWord op a v = _ :=
    BitVec.and_append.trans (congrArg (· ++ (dataField t &&& v)) BitVec.and_append)
  rwa [txnWord_fields] at h

/-- A word is of a row when each of its fields is. -/
@[simp] theorem fieldRow_fits (n : Mnemonic) (op : BitVec 2 × BitVec 2) (addr : Addr × Addr) (data : U32 × U32)
    (t : TxnWord) : (fieldRow n op addr data).fits t =
      decide (opField t &&& op.1 = op.2 ∧ addrField t &&& addr.1 = addr.2 ∧ dataField t &&& data.1 = data.2) := by
  simp only [OpcodeRow.fits, fieldRow, and_txnWord, beq_eq_decide, txnWord_inj]

/-- Every row compares the operation; of the address its leading bits or none, of the data all bits or none. -/
theorem opcodeRows_eq_fieldRows : opcodeRows =
    [ fieldRow .NOP (3, 0) (0, 0) (0, 0),
      fieldRow .RD (3, 1) (0, 0) (0, 0),
      fieldRow .CMD_APPLY (3, 2) (15, 0) (0xFFFFFFFF, 1),
      fieldRow .CMD_DEFAULTS (3, 2) (15, 0) (0xFFFFFFFF, 2),
      fieldRow .CMD_RSVD (3, 2) (15, 0) (0, 0),
      fieldRow .WR_STG_LED_FREQ (3, 2) (15, 2) (0, 0),
      fieldRow .WR_STG_LED_DUTY (3, 2) (15, 3) (0, 0),
      fieldRow .WR_STG_MAG_FREQ (3, 2) (15, 4) (0, 0),
      fieldRow .WR_STG_MAG_DUTY (3, 2) (15, 5) (0, 0),
      fieldRow .WR_IGN (3, 2) (15, 1) (0, 0),
      fieldRow .WR_IGN (3, 2) (14, 6) (0, 0),
      fieldRow .WR_IGN (3, 2) (8, 8) (0, 0),
      fieldRow .RSVD3 (3, 3) (0, 0) (0, 0) ] := by decide

/-- The rows of the two commands compare all bits of the data. -/
theorem and_dataMask (v : U32) : v &&& 0xFFFFFFFF#32 = v := BitVec.and_allOnes

theorem tableMnemonic_nop {t : TxnWord} (h : opField t = 0) : tableMnemonic t = some .NOP := by
  simp [tableMnemonic, opcodeRows_eq_fieldRows, h]

theorem tableMnemonic_rd {t : TxnWord} (h : opField t = 1) : tableMnemonic t = some .RD := by
  simp [tableMnemonic, opcodeRows_eq_fieldRows, h]

theorem tableMnemonic_rsvd3 {t : TxnWord} (h : opField t = 3) : tableMnemonic t = some .RSVD3 := by
  simp [tableMnemonic, opcodeRows_eq_fieldRows, h]

theorem tableMnemonic_write {t : TxnWord} {a : RegName} (h : opField t = 2) (ha : addrField t = a.addr) :
    tableMnemonic t = some (decodeWrite a (dataField t)).mnemonic := by
  cases a
  case cmd =>
    rcases command_cases (dataField t) with hv | hv | hv
    · simp [tableMnemonic, opcodeRows_eq_fieldRows, h, ha, hv, RegName.addr, decodeWrite, decodeCommand,
        Instr.mnemonic]
    · simp [tableMnemonic, opcodeRows_eq_fieldRows, h, ha, hv, RegName.addr, decodeWrite, decodeCommand,
        Instr.mnemonic]
    · rw [decodeWrite, decodeCommand_reserved hv]
      simp [tableMnemonic, opcodeRows_eq_fieldRows, h, ha, isReservedCommand_iff.1 hv, and_dataMask, RegName.addr,
        Instr.mnemonic]
  all_goals
    simp [tableMnemonic, opcodeRows_eq_fieldRows, h, ha, RegName.addr, decodeWrite, Instr.mnemonic]

theorem tableMnemonic_eq_decode (t : TxnWord) : tableMnemonic t = some (decode t).mnemonic := by
  rcases opField_cases t with h | h | h | h
  · rw [tableMnemonic_nop h, decode_nop h]; rfl
  · rw [tableMnemonic_rd h, decode_rd h]; rfl
  · rw [tableMnemonic_write h (addr_ofAddr _).symm, decode_write h]
  · rw [tableMnemonic_rsvd3 h, decode_rsvd3 h]; rfl

theorem decode_wellFormed (t : TxnWord) : (decode t).wellFormed = true := by
  rcases opField_cases t with h | h | h | h
  · rw [decode_nop h]; rfl
  · rw [decode_rd h]; rfl
  · rw [decode_write h, decodeWrite_wellFormed]
  · rw [decode_rsvd3 h]; rfl

/-- Settles O57: the table by the operation and the address of the word; the word of a write has no other fields than
those of `encode_decodeWrite`. -/
theorem decodeFollowsTheOpcodeTable : Obligations.DecodeFollowsTheOpcodeTable := by
  refine fun t => ⟨tableMnemonic_eq_decode t, decode_wellFormed t, fun h => ?_, fun h => ?_⟩
  · rw [decode_write h, encode_decodeWrite, addr_ofAddr, ← h, txnWord_fields]
  · exact ⟨_, decode_rd h, addr_ofAddr _⟩

end Sys2Proof.Machine
end

section
/-! PROOFS. The family `40_calculator.md`: the calculator's rounding, period and IntervalPair, and an install of the codes
in force. -/

namespace Sys2Proof.Machine

/-! ### The domain (R70) -/

/-- Settles O51: `valid_iff`, and each corner case evaluated. -/
theorem validCodes : Obligations.ValidCodes :=
  ⟨valid_iff, by decide⟩

/-! ### The rounding law (R77) -/

theorem roundHalfUp_eq_floor (a : Nat) {b : Nat} (hb : 0 < b) :
    (roundHalfUp a b : Int) = ⌊(a : Rat) / (b : Rat) + 1 / 2⌋ := by
  have hb' : (b : Rat) ≠ 0 := by positivity
  have hsum : (a : Rat) / b + 1 / 2 = ((2 * a + b : Nat) : Rat) / ((2 * b : Nat) : Rat) := by
    push_cast
    field_simp
  rw [hsum, Rat.floor_natCast_div_natCast, roundHalfUp, Int.natCast_ediv]

theorem period_eq_roundHalfUp (f : Nat) : period f = roundHalfUp 10000000 f := rfl

/-- R72 adds 500 of 1000 where R77 adds one half. -/
theorem highBeforeClamp_eq_roundHalfUp (p d : Nat) : highBeforeClamp p d = roundHalfUp (p * d) 1000 := by
  unfold highBeforeClamp roundHalfUp
  omega

/-- Settles O52. -/
theorem roundingIsHalfUp : Obligations.RoundingIsHalfUp :=
  ⟨fun a _ hb => roundHalfUp_eq_floor a hb, fun f _ => period_eq_roundHalfUp f, highBeforeClamp_eq_roundHalfUp⟩

/-! ### The period (R71) -/

/-- The period with one division by the code, from which its monotonicity is read off. -/
theorem period_eq_half {f : Nat} (hf : 1 ≤ f) : period f = (20000000 / f + 1) / 2 := by
  rw [period, Nat.mul_comm 2 f, ← Nat.div_div_eq_div_mul, Nat.add_div_right _ hf]

theorem period_le_period {f g : Nat} (hf : 1 ≤ f) (hfg : f ≤ g) : period g ≤ period f := by
  rw [period_eq_half hf, period_eq_half (hf.trans hfg)]
  have hquot : 20000000 / g ≤ 20000000 / f := Nat.div_le_div_left hfg hf
  omega

/-- Settles O53: `period_bounds`, `period_le_period`, and the examples evaluated. -/
theorem periodOfAFrequencyCode : Obligations.PeriodOfAFrequencyCode := by
  refine ⟨fun f h1 h2 => ?_, fun f g hf hfg _ => period_le_period hf hfg, by decide⟩
  obtain ⟨hmin, hmax⟩ := period_bounds h1 h2
  exact ⟨rfl, hmin, hmax, by omega⟩

/-! ### The high time before the clamp (R72) -/

/-- R77 for the high time: within half a microsecond of `p * D / 1000`. -/
theorem highBeforeClamp_error (p d : Nat) :
    1000 * highBeforeClamp p d ≤ p * d + 500 ∧ p * d ≤ 1000 * highBeforeClamp p d + 500 := by
  unfold highBeforeClamp
  omega

theorem highBeforeClamp_eq_zero_iff (p d : Nat) : highBeforeClamp p d = 0 ↔ p * d < 500 := by
  unfold highBeforeClamp
  omega

/-- A duty code of at most 1000 asks for no more than the period. -/
theorem highBeforeClamp_le {p d : Nat} (hd : d ≤ 1000) : highBeforeClamp p d ≤ p := by
  have hle : p * d ≤ p * 1000 := Nat.mul_le_mul_left p hd
  unfold highBeforeClamp
  omega

theorem highBeforeClamp_eq_period_iff {p d : Nat} (hd : d ≤ 1000) :
    highBeforeClamp p d = p ↔ p * (1000 - d) ≤ 500 := by
  have hle : p * d ≤ p * 1000 := Nat.mul_le_mul_left p hd
  rw [Nat.mul_sub]
  unfold highBeforeClamp
  omega

/-- The product of R72 for valid codes, between the period and 999 times the period. -/
theorem period_mul_duty_bounds {f d : Nat} (h : valid f d = true) :
    period f ≤ period f * d ∧ period f * d ≤ period f * 999 := by
  obtain ⟨-, hd1, hd2⟩ := (valid_iff f d).1 h
  exact ⟨Nat.le_mul_of_pos_right _ hd1, Nat.mul_le_mul_left _ hd2⟩

/-! ### The clamp (R72, R74) -/

theorem highTicks_of_inside {f d : Nat} (h1 : 1 ≤ highBeforeClamp (period f) d)
    (h2 : highBeforeClamp (period f) d < period f) : highTicks f d = highBeforeClamp (period f) d := by
  unfold highTicks
  omega

/-- The three ways the clamp can act: on a high time of 0, on one of the whole period, and not at all. -/
theorem highTicks_cases {f d : Nat} (h : valid f d = true) :
    (highBeforeClamp (period f) d = 0 ∧ highTicks f d = 1) ∨
    (highBeforeClamp (period f) d = period f ∧ highTicks f d = period f - 1) ∨
    highTicks f d = highBeforeClamp (period f) d := by
  obtain ⟨⟨hf1, hf2⟩, -, hd2⟩ := (valid_iff f d).1 h
  obtain ⟨hp, -⟩ := period_bounds hf1 hf2
  have hle : highBeforeClamp (period f) d ≤ period f := highBeforeClamp_le (by omega)
  unfold highTicks
  omega

/-- The duty cycle is met within a microsecond: the clamp moves the high time by one tick, back towards
`p * D / 1000`. -/
theorem highTicks_error {f d : Nat} (h : valid f d = true) :
    1000 * highTicks f d ≤ period f * d + 1000 ∧ period f * d ≤ 1000 * highTicks f d + 1000 := by
  obtain ⟨herr1, herr2⟩ := highBeforeClamp_error (period f) d
  obtain ⟨-, hmul⟩ := period_mul_duty_bounds h
  rcases highTicks_cases h with ⟨h0, hclamp⟩ | ⟨hp, hclamp⟩ | hnone
  · omega
  · omega
  · omega

/-- The safe band: in a period of 6667 ticks or more, one permille is more than half a tick. -/
theorem highTicks_of_safeBand {f d : Nat} (h : valid f d = true) (hf : f ≤ 1500) :
    highTicks f d = highBeforeClamp (period f) d := by
  obtain ⟨⟨hf1, -⟩, -⟩ := (valid_iff f d).1 h
  have hp : period 1500 ≤ period f := period_le_period hf1 hf
  have h1500 : period 1500 = 6667 := by decide
  obtain ⟨hlow, hhigh⟩ := period_mul_duty_bounds h
  obtain ⟨herr1, herr2⟩ := highBeforeClamp_error (period f) d
  exact highTicks_of_inside (by omega) (by omega)

/-- Settles O54: the registers hold the pair of R72 by `calcPair_toNat`. -/
theorem intervalPairOfTheCodes : Obligations.IntervalPairOfTheCodes := by
  intro f d h
  obtain ⟨⟨hf1, hf2⟩, -, hd2⟩ := (valid_iff f d).1 h
  have hd : d ≤ 1000 := by omega
  have hp := period_bounds hf1 hf2
  have hmul := period_mul_duty_bounds h
  have hsum := highTicks_lowTicks h
  obtain ⟨hhigh, hlow⟩ := calcPair_toNat h
  simp only [hhigh, hlow]
  exact ⟨rfl, rfl, by omega, by omega, by omega, highBeforeClamp_eq_zero_iff _ d, highBeforeClamp_eq_period_iff hd,
    fun _ hf => highTicks_of_safeBand h hf⟩

/-- Settles O55: the parts of the period by `highTicks_lowTicks`, the error by `highTicks_error`; without the clamp it
is that of the rounding alone. -/
theorem intervalPairProperties : Obligations.IntervalPairProperties := by
  intro f d h
  obtain ⟨⟨hf1, hf2⟩, -⟩ := (valid_iff f d).1 h
  obtain ⟨hhigh1, hlow1, hsum⟩ := highTicks_lowTicks h
  obtain ⟨hhigh, hlow⟩ := calcPair_toNat h
  simp only [hhigh, hlow]
  refine ⟨⟨hhigh1, hlow1⟩, hsum, highTicks_error h, fun hnone => ?_, period_bounds hf1 hf2, by omega, by omega⟩
  rw [hnone]
  exact highBeforeClamp_error (period f) d

/-! ### An install of the codes in force (R76, R117) -/

@[simp] theorem toNat_zext32 (v : U16) : (zext32 v).toNat = v.toNat := by
  rw [zext32, BitVec.toNat_setWidth]
  omega

/-- R30 item 2: the codes of a channel and their pair are what it holds already. -/
theorem ChanInv.withCodes_self {enabled : Bool} {x : ChannelRegs} (h : ChanInv enabled x) :
    withCodes x.freq.toNat x.duty.toNat x = x := by
  simp [withCodes, ← h.pairMatches]

/-- R117 with the live codes as arguments is accepted and writes no code and no interval. -/
theorem install_liveCodes {p : Params} {r : Regs} (h : RegsInv p r) :
    install r.led.freq.toNat r.led.duty.toNat r.mag.freq.toNat r.mag.duty.toNat r =
      syncStaging { r with reject := false, saveReq := true } := by
  obtain ⟨hc, -⟩ := regsInv_iff.1 h
  have hled : ChanInv _ r.led := hc .led
  have hmag : ChanInv _ r.mag := hc .mag
  have hacc : acceptable r.led.freq.toNat r.led.duty.toNat r.mag.freq.toNat r.mag.duty.toNat = true := by
    rw [acceptable, hled.codesValid, hmag.codesValid, Bool.and_self]
  rw [install_accepted _ _ _ _ _ hacc, hled.withCodes_self, hmag.withCodes_self]
  rfl

theorem applyStaged_syncStaging {p : Params} {r : Regs} (h : RegsInv p r) :
    applyStaged (syncStaging r) = { syncStaging r with reject := false, saveReq := true } := by
  have hsync : RegsInv p (syncStaging r) := h.of_unconstrained
  have hlive := install_liveCodes hsync
  simp only [applyStaged, syncStaging, toNat_zext32] at hlive ⊢
  exact hlive

/-- Every install ends with the staging registers synced to the live codes (R117). -/
theorem syncStaging_install (lf ld mf md : Nat) (r : Regs) :
    syncStaging (install lf ld mf md r) = install lf ld mf md r := rfl

/-- Settles O46: the first install, accepted or not, keeps R30 and leaves the live codes staged; the second is of those
codes. -/
theorem applyingTwiceChangesNothing : Obligations.ApplyingTwiceChangesNothing := by
  intro s t u hg hfirst hsecond
  rw [exec_eq] at hfirst
  cases hfirst
  rw [exec_eq] at hsecond
  cases hsecond
  have hkept : RegsInv s.params (applyStaged s.regs) := install_regsInv hg.regs _ _ _ _
  have hsynced : syncStaging (applyStaged s.regs) = applyStaged s.regs := syncStaging_install _ _ _ _ _
  have hagain := applyStaged_syncStaging hkept
  rwa [hsynced] at hagain

end Sys2Proof.Machine
end

section
/-! PROOFS. The family `41_oscillator.md`: the countdown case by case, start and stop, and a channel's timer over runs of
ticks: a half-cycle in progress and a stale count. -/

namespace Sys2Proof.Machine

/-! ### Start and stop (R80, R86, R87) -/

/-- Settles O14, by the lemmas of `start` and `stop`. -/
theorem startAndStop : Obligations.StartAndStop :=
  fun c r => ⟨⟨rfl, rfl⟩, start_failed c r, start_sound c r, rfl, stop_stopped c r⟩

/-! ### The timer phase (R82, R83) -/

theorem mayToggle_eq_true {c : Channel} {r : Regs} : mayToggle c r = true ↔
    enEff c r = true ∧ (chan c r).armed = true ∧ (chan c r).fail = false := by
  simp [mayToggle, and_assoc]

theorem mayToggle_eq_false {c : Channel} {r : Regs} : mayToggle c r = false ↔
    enEff c r = false ∨ (chan c r).armed = false ∨ (chan c r).fail = true := by
  simp [mayToggle, or_assoc, imp_iff_not_or]

/-- The two channels may be handled in either order (R82). -/
theorem countdown_comm (r : Regs) :
    countdown .led (countdown .mag r) = countdown .mag (countdown .led r) := by
  rw [countdown_eq_setChan .led (countdown .mag r), mayToggle_countdown_other .mag .led r (by decide),
    chan_countdown_other .mag .led r (by decide), countdown_eq_setChan .mag r,
    countdown_eq_setChan .mag (countdown .led r), mayToggle_countdown_other .led .mag r (by decide),
    chan_countdown_other .led .mag r (by decide), countdown_eq_setChan .led r]
  rfl

/-- R83: the toggle takes the duration of the new level. -/
theorem durationOf_not (x : ChannelRegs) (b : Bool) : durationOf x (!b) = if b then x.lowUs else x.highUs := by
  cases b <;> rfl

/-- Settles O13: a countdown writes its own channel alone, and what it writes goes by the count and the guard of R83. -/
theorem countdownAndExpiry : Obligations.CountdownAndExpiry := by
  refine ⟨fun c r => ?_, fun r => ⟨rfl, countdown_comm r⟩⟩
  rw [countdown_eq_setChan]
  refine ⟨fun h0 => ?_, fun h2 => ?_, fun h1 he ha hf => ?_, fun h1 hguard => ?_⟩
  · rw [countdownChan_idle _ _ (BitVec.eq_of_toNat_eq h0), regs_eq_setChan]
  · have hpred : (chan c r).cnt - 1 = BitVec.ofNat 32 ((chan c r).cnt.toNat - 1) := by bv_omega
    rw [countdownChan_counting _ _ h2, hpred]
  · rw [mayToggle_eq_true.2 ⟨he, ha, hf⟩, countdownChan_expiry _ (BitVec.eq_of_toNat_eq h1), toggled, durationOf_not]
  · rw [mayToggle_eq_false.2 hguard, countdownChan_guarded _ (BitVec.eq_of_toNat_eq h1)]

/-! ### Runs, tick by tick -/

theorem runTicks_add {m : Nat} {s u : State} (h : runTicks m s = .next u) (n : Nat) :
    runTicks (m + n) s = runTicks n u := by
  induction m generalizing s with
  | zero =>
    cases h
    rw [Nat.zero_add]
  | succ m ih =>
    have hs := step_eq s
    rw [Nat.add_right_comm, runTicks_succ hs]
    exact ih ((runTicks_succ hs m).symm.trans h)

theorem runTicks_step {k : Nat} {s u t : State} (h : runTicks k s = .next u) (ht : step u = .next t) :
    runTicks (k + 1) s = .next t :=
  (runTicks_add h 1).trans (runTicks_succ ht 0)

/-- What each of the first `n` ticks of one run carries over holds after every one of them. -/
theorem runTicks_induction_of_lt {I : Nat → State → Prop} {s : State} {n : Nat} (h0 : I 0 s)
    (hstep : ∀ k < n, ∀ u t, runTicks k s = .next u → runTicks (k + 1) s = .next t → step u = .next t →
      I k u → I (k + 1) t) :
    ∀ k ≤ n, ∃ u, runTicks k s = .next u ∧ I k u := by
  intro k hk
  induction k with
  | zero => exact ⟨s, rfl, h0⟩
  | succ k ih =>
    obtain ⟨u, hu, hI⟩ := ih (Nat.le_of_succ_le hk)
    have ht := step_eq u
    have hrun := runTicks_step hu ht
    exact ⟨_, hrun, hstep k hk u _ hu hrun ht hI⟩

/-! ### A half-cycle in progress (R85) -/

/-- Channel `c` runs, at level `b`, in a half-cycle with `n` ticks left. -/
structure InHalfCycle (c : Channel) (b : Bool) (n : Nat) (s : State) : Prop where
  good : GoodState s
  armed : (chan c s.regs).armed = true
  level : (chan c s.regs).level = b
  left : (chan c s.regs).cnt.toNat = n

section
variable {c : Channel} {b : Bool} {n : Nat} {s : State}

theorem InHalfCycle.left_pos (h : InHalfCycle c b n s) : 1 ≤ n :=
  h.left ▸ h.good.regs.armedCounting c h.armed

theorem step_untouched_armed {t : State} (hg : GoodState s) (hu : touchesChannel c s = false)
    (ht : step s = .next t) : (chan c t.regs).armed = (chan c s.regs).armed := by
  obtain ⟨hr, -⟩ := touchesChannel_eq_false.1 hu
  rw [step_tick s hr] at ht
  cases ht
  obtain ⟨-, -, harmed⟩ := chan_afterTick_untouched hg hu
  exact harmed

/-- A tick before the last leaves one tick less. -/
theorem InHalfCycle.tick {t : State} (h : InHalfCycle c b n s) (h2 : 2 ≤ n) (hu : touchesChannel c s = false)
    (ht : step s = .next t) : InHalfCycle c b (n - 1) t := by
  obtain ⟨hcount, -⟩ := newPairWaitsForTheNextExpiry s t c h.good hu ht
  obtain ⟨hcnt, hlevel⟩ := hcount (h.left.symm ▸ h2)
  exact {
    good := everyStepKeepsTheGoodState s t h.good ht
    armed := (step_untouched_armed h.good hu ht).trans h.armed
    level := hlevel.trans h.level
    left := by rw [hcnt, h.left] }

/-- The last tick begins the half-cycle of the other level, with the duration of the pair in force. -/
theorem InHalfCycle.expiry {t : State} (h : InHalfCycle c b 1 s) (hu : touchesChannel c s = false)
    (ht : step s = .next t) : InHalfCycle c (!b) (durationOf (chan c s.regs) (!b)).toNat t := by
  obtain ⟨-, hexpiry⟩ := newPairWaitsForTheNextExpiry s t c h.good hu ht
  obtain ⟨hlevel, hcnt⟩ := hexpiry (BitVec.eq_of_toNat_eq h.left) h.armed
  exact {
    good := everyStepKeepsTheGoodState s t h.good ht
    armed := (step_untouched_armed h.good hu ht).trans h.armed
    level := by rw [hlevel, h.level]
    left := by rw [hcnt, h.level, durationOf_not] }

variable (h : InHalfCycle c b n s) (hu : ∀ k < n, ∀ u, runTicks k s = .next u → touchesChannel c u = false)
include h hu

/-- Before its end the half-cycle counts down, tick by tick. -/
theorem InHalfCycle.run : ∀ k < n, ∃ u, runTicks k s = .next u ∧ InHalfCycle c b (n - k) u := by
  intro k hk
  exact runTicks_induction_of_lt (I := fun k u => InHalfCycle c b (n - k) u) (n := n - 1) h
    (fun k hk u t hrun _ ht hI => hI.tick (by omega) (hu k (by omega) u hrun) ht) k (by omega)

/-- After its `n` ticks the half-cycle of the other level begins; its duration is of the pair one tick before. -/
theorem InHalfCycle.run_to_expiry : ∃ u v, runTicks (n - 1) s = .next u ∧ runTicks n s = .next v ∧
    InHalfCycle c (!b) (durationOf (chan c u.regs) (!b)).toNat v := by
  have hpos := h.left_pos
  obtain ⟨u, hlast, hI⟩ := h.run hu (n - 1) (by omega)
  have hleft : n - (n - 1) = 1 := by omega
  rw [hleft] at hI
  have ht := step_eq u
  have hend := runTicks_step hlast ht
  rw [Nat.sub_add_cancel hpos] at hend
  exact ⟨u, _, hlast, hend, hI.expiry (hu (n - 1) (by omega) u hlast) ht⟩

end

/-- A steady channel: a LOW half-cycle and the HIGH one after it end where the next LOW one begins. -/
theorem InHalfCycle.run_period {c : Channel} {s : State} {low high : U32} (h : InHalfCycle c false low.toNat s)
    (hsteady : ∀ k < low.toNat + high.toNat, ∀ u, runTicks k s = .next u →
      touchesChannel c u = false ∧ (chan c u.regs).highUs = high ∧ (chan c u.regs).lowUs = low) :
    ∃ v, runTicks (low.toNat + high.toNat) s = .next v ∧ InHalfCycle c false low.toNat v := by
  have hlow := h.left_pos
  obtain ⟨u, v, hu, hv, hhigh⟩ :=
    h.run_to_expiry fun k hk u hu => (hsteady k (by omega) u hu).1
  obtain ⟨-, huHigh, -⟩ := hsteady (low.toNat - 1) (by omega) u hu
  rw [durationOf_not, if_neg (by decide), huHigh] at hhigh
  have hpos := hhigh.left_pos
  have hlater := runTicks_add hv
  obtain ⟨x, y, hx, hy, hnext⟩ := hhigh.run_to_expiry fun k hk w hw =>
    (hsteady (low.toNat + k) (by omega) w ((hlater k).trans hw)).1
  obtain ⟨-, -, hxLow⟩ := hsteady (low.toNat + (high.toNat - 1)) (by omega) x ((hlater _).trans hx)
  rw [durationOf_not, if_pos (by decide), hxLow] at hnext
  exact ⟨y, (hlater _).trans hy, hnext⟩

/-- Settles O15: the half-cycle in progress runs to its expiry; two of them make the period. -/
theorem halfCyclesAreExact : Obligations.HalfCyclesAreExact := by
  refine ⟨fun s c hg ha hu => ?_, fun s c hg ha hl hc hsteady => ?_⟩
  · have h : InHalfCycle c (chan c s.regs).level (chan c s.regs).cnt.toNat s := ⟨hg, ha, rfl, rfl⟩
    constructor
    · intro k hk
      obtain ⟨u, hrun, hI⟩ := h.run hu k hk
      exact ⟨u, hrun, hI.left, hI.level, hI.armed⟩
    · obtain ⟨u, v, hlast, hend, hI⟩ := h.run_to_expiry hu
      exact ⟨u, v, hlast, hend, hI.armed, hI.level, by rw [BitVec.eq_of_toNat_eq hI.left, durationOf_not]⟩
  · have h : InHalfCycle c false (chan c s.regs).lowUs.toNat s := ⟨hg, ha, hl, by rw [hc]⟩
    obtain ⟨v, hend, hI⟩ := h.run_period hsteady
    exact ⟨v, hend, hI.armed, hI.level, BitVec.eq_of_toNat_eq hI.left⟩

/-! ### A stale count (R84) -/

/-- Without the guard of R83 every tick takes one from the count, down to 0. -/
theorem countdownChan_guarded_cnt (x : ChannelRegs) : (countdownChan false x).cnt.toNat = x.cnt.toNat - 1 := by
  have hcases : x.cnt = 0 ∨ x.cnt = 1 ∨ 2 ≤ x.cnt.toNat := by bv_omega
  obtain h0 | h1 | h2 := hcases
  · simp [countdownChan_idle _ _ h0, h0]
  · simp [countdownChan_guarded _ h1, h1]
  · rw [countdownChan_counting _ _ h2]
    bv_omega

theorem startedIf_cnt_of_halted {e : Bool} {x : ChannelRegs} (h : (startedIf e x).armed = false) :
    (startedIf e x).cnt = x.cnt := by
  unfold startedIf at h ⊢
  split
  next hs => simp [hs] at h
  next => rfl

/-- The controller writes the count of a channel only to start it (R86, R87). -/
theorem chan_controllerAction_cnt_of_halted {p : Params} {r : Regs} {c : Channel}
    (h : (chan c (controllerAction p r)).armed = false) :
    (chan c (controllerAction p r)).cnt = (chan c r).cnt := by
  rcases controllerAction_cases p r with hact | hact | hact | hact | hact | hact <;> rw [hact] at h ⊢
  · rw [disable, chan_with_en, chan_stop_both]
  · rw [enable, chan_start_both, chan_with_en] at h ⊢
    exact startedIf_cnt_of_halted h
  · cases c <;> rfl
  · cases c <;> rfl
  · rw [enterRun, chan_with_runSince, chan_start_both] at h ⊢
    rw [startedIf_cnt_of_halted h]
    cases c <;> rfl

theorem chan_buttonPhase_cnt_of_halted {p : Params} {btn : Bool} {r : Regs} {c : Channel}
    (h : acceptsEdge p btn r = true → (chan c (buttonPhase p btn r)).armed = false) :
    (chan c (buttonPhase p btn r)).cnt = (chan c r).cnt := by
  cases ha : acceptsEdge p btn r
  · rw [buttonPhase_quiet p btn r ha, chan_with_btnPrev]
  · have harmed := h ha
    rw [buttonPhase_accepted p btn r ha] at harmed ⊢
    rw [chan_controllerAction_cnt_of_halted harmed]
    cases c <;> rfl

/-- The idle timeout does not fire in the tick of an accepted edge, so what the edge starts stays armed. -/
theorem chan_afterTick_armed_of_accepted {s : State} (c : Channel) (hp : s.params.WellFormed)
    (he : edgeAccepted s = true) : (chan c (afterTick s).regs).armed =
      (chan c (regsBeforeHost s.params (nextInput s).pins.btn s.regs)).armed := by
  have hidle : idleFires s = false := by simp [idleFires, he]
  have hdue := (idleDue_after_hostRegs hp).trans hidle
  rw [afterTick_regs, chan_regsAfterHost, idlePhase_quiet _ _ hdue, chan_hostRegs_armed]

/-- A channel not armed before and after a tick has been counted down by it and nothing more: a start would have armed
it for the rest of the tick. -/
theorem chan_afterTick_cnt_of_halted {s : State} {c : Channel} (hp : s.params.WellFormed)
    (hs : (chan c s.regs).armed = false) (ht : (chan c (afterTick s).regs).armed = false) :
    (chan c (afterTick s).regs).cnt.toNat = (chan c s.regs).cnt.toNat - 1 := by
  have hmay : mayToggle c (clearSaveReq s.regs) = false :=
    mayToggle_eq_false.2 (.inr (.inl ((congrArg _ (chan_clearSaveReq c s.regs)).trans hs)))
  rw [afterTick_regs, chan_regsAfterHost, chan_idlePhase_cnt, chan_hostRegs_cnt, regsBeforeHost,
    chan_buttonPhase_cnt_of_halted, chan_timerPhase, hmay, countdownChan_guarded_cnt, chan_clearSaveReq]
  intro he
  rw [acceptsEdge_beforeButton] at he
  exact (chan_afterTick_armed_of_accepted c hp he).symm.trans ht

/-- Settles O16, by induction on the ticks of the run. -/
theorem staleCountRunsOutSilently : Obligations.StaleCountRunsOutSilently := by
  intro s c n hg hhalted hnoReset
  have hrun := runTicks_induction_of_lt (n := n)
    (I := fun k u => GoodState u ∧ (chan c u.regs).cnt.toNat = (chan c s.regs).cnt.toNat - k) ⟨hg, rfl⟩
    fun k hk u t hu ht hstep ⟨hgu, hcnt⟩ => by
      refine ⟨everyStepKeepsTheGoodState u t hgu hstep, ?_⟩
      have hbefore := hhalted k hk.le u hu
      have hafter := hhalted (k + 1) hk t ht
      rw [step_tick u (hnoReset k hk u hu)] at hstep
      cases hstep
      rw [chan_afterTick_cnt_of_halted hgu.params hbefore hafter, hcnt, Nat.sub_sub]
  obtain ⟨t, ht, hgt, hcnt⟩ := hrun n le_rfl
  exact ⟨t, ht, hgt.regs.haltedLow c (hhalted n le_rfl t ht), hcnt⟩

end Sys2Proof.Machine
end

section
/-! PROOFS. The family `42_button_enable.md`: the debounce test, the two actions of the canonical controller, the one
writer of `EN`, and the distance between accepted edges. -/

namespace Sys2Proof.Machine

/-! ### The raw edge and the debounce test (R90, R91) -/

theorem fallingEdge_eq_true {btn : Bool} {r : Regs} : fallingEdge btn r = true ↔ r.btnPrev = true ∧ btn = false := by
  simp [fallingEdge]

theorem acceptsEdge_eq_true {p : Params} {btn : Bool} {r : Regs} :
    acceptsEdge p btn r = true ↔ fallingEdge btn r = true ∧ passesDebounce p r = true := by
  simp [acceptsEdge]

theorem acceptsEdge_eq_false {p : Params} {btn : Bool} {r : Regs} :
    acceptsEdge p btn r = false ↔ fallingEdge btn r = false ∨ passesDebounce p r = false := by
  simp [acceptsEdge, imp_iff_not_or]

theorem passesDebounce_eq_true {p : Params} {r : Regs} :
    passesDebounce p r = true ↔ r.lastValid = false ∨ p.debounceUs ≤ elapsedSince r.lastAccept r := by
  simp [passesDebounce]

/-- `elapsedSince` over the naturals: `(NOW - T) mod 2^64` (R11), with 2^64 added before the subtraction. -/
theorem elapsedSince_eq_mod (t : U64) (r : Regs) :
    elapsedSince t r = (r.now.toNat + 2 ^ 64 - t.toNat) % 2 ^ 64 := by
  have ht := t.isLt
  rw [elapsedSince, BitVec.toNat_sub]
  congr 1
  omega

/-! ### The button phase (R90, R92, R93) -/

@[simp] theorem controllerAction_btnPrev (p : Params) (r : Regs) : (controllerAction p r).btnPrev = r.btnPrev := by
  rcases controllerAction_cases p r with h | h | h | h | h | h <;> rw [h] <;>
    simp [disable, enable, runToMagnetOff, magnetOffToAllOff, enterRun, loadBaseFreq]

/-- R90: the sample is taken whether or not there is an edge. -/
@[simp] theorem buttonPhase_btnPrev (p : Params) (btn : Bool) (r : Regs) : (buttonPhase p btn r).btnPrev = btn := by
  cases ha : acceptsEdge p btn r
  · rw [buttonPhase_quiet p btn r ha]
  · rw [buttonPhase_accepted p btn r ha, controllerAction_btnPrev]

/-- Settles O23: either way no edge is accepted, so the button phase is quiet. -/
theorem droppedEdgeWritesOnlyBtnPrev : Obligations.DroppedEdgeWritesOnlyBtnPrev :=
  fun p btn r => ⟨fallingEdge_eq_true, buttonPhase_btnPrev p btn r,
    fun hfall => buttonPhase_quiet p btn r (acceptsEdge_eq_false.2 (.inl hfall)),
    fun _ hdrop => buttonPhase_quiet p btn r (acceptsEdge_eq_false.2 (.inr hdrop))⟩

/-- Settles O24: the controller acts after the two writes of acceptance and does not write them again. -/
theorem acceptedEdge : Obligations.AcceptedEdge := by
  refine fun p btn r => ⟨?_, fun hfall hpass => ?_⟩
  · rw [passesDebounce_eq_true, elapsedSince_eq_mod]
  · rw [buttonPhase_accepted p btn r (acceptsEdge_eq_true.2 ⟨hfall, hpass⟩)]
    exact ⟨controllerAction_lastAccept _ _, controllerAction_lastValid _ _, rfl⟩

/-! ### The disable and the enable action (R96, R97) -/

theorem disable_eq (r : Regs) : disable r =
    { r with
      en := false
      led := { r.led with level := false, armed := false }
      mag := { r.mag with level := false, armed := false } } := rfl

theorem enable_eq (r : Regs) : enable r =
    { r with
      en := true
      led := if r.led.fail then r.led else { r.led with level := false, armed := true, cnt := r.led.lowUs }
      mag := if r.mag.fail then r.mag else { r.mag with level := false, armed := true, cnt := r.mag.lowUs } } := by
  rw [enable, start_eq_setChan .mag, start_eq_setChan .led]
  rfl

/-- Settles O25: the controller's action on the registers as acceptance leaves them, written out. -/
theorem canonicalEdgeToggles : Obligations.CanonicalEdgeToggles := by
  intro p btn r hl ha
  rw [buttonPhase_accepted p btn r ha]
  refine ⟨fun he => ?_, fun he => ?_⟩
  · exact Eq.trans (controllerAction_disable p _ hl he) (disable_eq _)
  · exact Eq.trans (controllerAction_enable p _ hl he) (enable_eq _)

/-! ### The one writer of `EN` (R95, R98) -/

/-- R95: what selects the action of the canonical controller. -/
theorem controllerAction_canonical {p : Params} (r : Regs) (hl : p.legacyModes = false) :
    controllerAction p r = if r.en then disable r else enable r := by
  simp [controllerAction, hl]

theorem controllerAction_en_canonical {p : Params} (r : Regs) (hl : p.legacyModes = false) :
    (controllerAction p r).en = !r.en := by
  rw [controllerAction_canonical r hl]
  cases he : r.en
  · exact congrArg Regs.en (enable_eq r)
  · exact congrArg Regs.en (disable_eq r)

theorem regsBeforeHost_en_canonical {p : Params} (btn : Bool) (r : Regs) (hl : p.legacyModes = false) :
    (regsBeforeHost p btn r).en = (r.en ^^ acceptsEdge p btn r) := by
  have hen : (timerPhase (clearSaveReq r)).en = r.en := timerPhase_en _
  rw [regsBeforeHost, ← acceptsEdge_beforeButton]
  cases ha : acceptsEdge p btn (timerPhase (clearSaveReq r))
  · rw [buttonPhase_quiet p btn _ ha, Bool.xor_false]
    exact hen
  · rw [buttonPhase_accepted p btn _ ha, controllerAction_en_canonical _ hl, Bool.xor_true]
    exact congrArg (!·) hen

@[simp] theorem hostRegs_en (p : Params) (i : Instr) (r : Regs) : (hostRegs p i r).en = r.en := by
  obtain ⟨-, -, h, -⟩ := hostRegs_frame p i r
  exact h

theorem regsAfterHost_canonical {p : Params} (r : Regs) (hl : p.legacyModes = false) :
    regsAfterHost p r = advanceNow r := by
  rw [regsAfterHost, idlePhase_quiet p r (idleDue_canonical p r hl)]

/-- Settles O26: P0 and P1 leave `EN` alone, P2 toggles it on an accepted edge, no transaction writes it (R98), and P4
is idle in this variant. -/
theorem enableFlagHasOneWriter : Obligations.EnableFlagHasOneWriter := by
  refine ⟨fun p btn r hl ha => ?_, fun s t hl hstep hr => ?_⟩
  · rw [buttonPhase_accepted p btn r ha, controllerAction_canonical _ hl]
  · rw [step_tick s hr] at hstep
    cases hstep
    rw [afterTick_regs, regsAfterHost_canonical _ hl]
    exact (hostRegs_en _ _ _).trans (regsBeforeHost_en_canonical _ _ hl)

/-! ### The distance between accepted edges (R99) -/

/-- The last accepted edge is at most `m` ticks old, modulo the wrap of `NOW`. -/
structure AcceptedWithin (p : Params) (m : Nat) (s : State) : Prop where
  params : s.params = p
  valid : s.regs.lastValid = true
  recent : elapsedSince s.regs.lastAccept s.regs ≤ m

/-- The tick of an accepted edge leaves one that is one tick old. -/
theorem afterTick_acceptedWithin {s : State} (he : edgeAccepted s = true) :
    AcceptedWithin s.params 1 (afterTick s) where
  params := rfl
  valid := by rw [afterTick_lastValid, he, Bool.true_or]
  recent := by
    rw [elapsedSince, afterTick_now, afterTick_lastAccept, if_pos he]
    bv_omega

/-- One more tick adds at most one to the age: it accepts an edge itself, or the last one gets a tick older. -/
theorem AcceptedWithin.tick {p : Params} {m : Nat} {s : State} (h : AcceptedWithin p m s) :
    AcceptedWithin p (m + 1) (afterTick s) := by
  cases he : edgeAccepted s
  · have hage := h.recent
    refine ⟨h.params, by rw [afterTick_lastValid, he, h.valid, Bool.or_true], ?_⟩
    rw [elapsedSince] at hage ⊢
    rw [afterTick_now, afterTick_lastAccept, he, if_neg Bool.false_ne_true]
    bv_omega
  · obtain ⟨hparams, hvalid, hage⟩ := afterTick_acceptedWithin he
    exact ⟨hparams.trans h.params, hvalid, hage.trans (by omega)⟩

/-- R91: an edge is accepted only when the last one is a window old. -/
theorem AcceptedWithin.debounce_le {p : Params} {m : Nat} {s : State} (h : AcceptedWithin p m s)
    (he : edgeAccepted s = true) : p.debounceUs ≤ m := by
  obtain ⟨-, hpass⟩ := acceptsEdge_eq_true.1 he
  obtain hnone | hwindow := passesDebounce_eq_true.1 hpass
  · exact absurd (h.valid.symm.trans hnone) (by decide)
  · exact h.params ▸ hwindow.trans h.recent

/-- Settles O27, by induction on the ticks after the first edge; edges accepted in between only make the last one
younger. -/
theorem acceptedEdgesAreAWindowApart : Obligations.AcceptedEdgesAreAWindowApart := by
  intro s u n he _ hnoReset hrun hu
  have hlater := runTicks_succ (step_tick s (hnoReset 0 (Nat.zero_le n) s rfl))
  obtain ⟨v, hv, hI⟩ := runTicks_induction_of_lt (n := n)
    (I := fun k v => AcceptedWithin s.params (k + 1) v) (afterTick_acceptedWithin he)
    (fun k hk v t hv _ hstep hI => by
      rw [step_tick v (hnoReset (k + 1) hk v ((hlater k).trans hv))] at hstep
      cases hstep
      exact hI.tick) n le_rfl
  rw [hlater, hv] at hrun
  cases hrun
  exact hI.debounce_le hu

end Sys2Proof.Machine
end

section
/-! PROOFS. The family `43_host_ops.md`: the transactions without effect, the reads, the staging writes, the install
step and its two commands, and who else writes a code or an interval. -/

namespace Sys2Proof.Machine

/-! ### The transactions without effect (R105, R114, R115, R116) -/

/-- A tick around what its transaction answers (R136, R139). -/
theorem step_of_exec {s u : State} (hr : isResetTick s = false)
    (h : exec (comingTxn s) (beforeHost (takeInput s)) = .next u) : step s = .next (afterHost u) := by
  rw [exec_eq] at h
  cases h
  exact step_tick s hr

theorem exec_withoutEffect {i : Instr}
    (h : i = .nop ∨ i = .rsvd3 ∨ (∃ v, i = .cmdRsvd v) ∨ ∃ a v, i = .wrIgn a v) (s : State) :
    exec i s = .next { s with rdata := 0 } := by
  obtain rfl | rfl | ⟨v, rfl⟩ | ⟨a, v, rfl⟩ := h <;> rfl

/-- Settles O33: each answers by `exec_withoutEffect`, and the tick runs its other phases around that answer. -/
theorem transactionsWithoutEffect : Obligations.TransactionsWithoutEffect := by
  refine ⟨fun s i hr htxn hi => step_of_exec hr ?_, fun s => ⟨?_, ?_, fun v => ?_, fun a v => ?_⟩⟩
  · rw [htxn]
    exact exec_withoutEffect hi _
  · exact exec_withoutEffect (.inl rfl) s
  · exact exec_withoutEffect (.inr (.inl rfl)) s
  · exact exec_withoutEffect (.inr (.inr (.inl ⟨v, rfl⟩))) s
  · exact exec_withoutEffect (.inr (.inr (.inr ⟨a, v, rfl⟩))) s

/-! ### Reads (R106, R107) -/

/-- Settles O34: a read in the host phase sees the registers that `beforeHost` kept; the code addresses read the live
code, zero-extended. -/
theorem readReturnsTheRegister : Obligations.ReadReturnsTheRegister :=
  ⟨fun a s => exec_eq (.rd a) (beforeHost s),
    fun _ => ⟨rfl, rfl, rfl, rfl, rfl, rfl, toNat_zext32 _, toNat_zext32 _, toNat_zext32 _, toNat_zext32 _,
      rfl, rfl, rfl, rfl, rfl, rfl⟩,
    by decide⟩

/-- Settles O36: the codes are zero-extended, and `EN` is bit 0 of `STATUS`. -/
theorem getSettingsReadsTheLiveCodes : Obligations.GetSettingsReadsTheLiveCodes := by
  refine fun r => ⟨toNat_zext32 _, toNat_zext32 _, toNat_zext32 _, toNat_zext32 _, ?_⟩
  have h : (getSettings r).enabled = (statusWord r).getLsbD 0 := rfl
  rw [h, statusWord_getLsbD]
  simp

/-! ### The staging writes (R108 to R111) -/

/-- Settles O37: the four arms of `exec_eq`. -/
theorem stagingWrites : Obligations.StagingWrites :=
  fun v s => ⟨exec_eq (.wrStgLedFreq v) s, exec_eq (.wrStgLedDuty v) s, exec_eq (.wrStgMagFreq v) s,
    exec_eq (.wrStgMagDuty v) s⟩

/-! ### The install step (R117) -/

theorem acceptable_iff (lf ld mf md : Nat) :
    acceptable lf ld mf md = true ↔ valid lf ld = true ∧ valid mf md = true := by
  simp [acceptable]

/-- On valid codes the pair is that of R72. -/
theorem withCodes_valid {f d : Nat} (h : valid f d = true) (x : ChannelRegs) :
    withCodes f d x = { x with
      freq := BitVec.ofNat 16 f, duty := BitVec.ofNat 16 d
      highUs := BitVec.ofNat 32 (highTicks f d), lowUs := BitVec.ofNat 32 (lowTicks f d) } := by
  simp [withCodes, calcPair, h]

/-- A number that a code register holds loses nothing on its way to a staging register. -/
theorem zext32_ofNat {n : Nat} (h : n ≤ 65535) : zext32 (BitVec.ofNat 16 n) = BitVec.ofNat 32 n := by
  apply BitVec.eq_of_toNat_eq
  rw [toNat_zext32, BitVec.toNat_ofNat, BitVec.toNat_ofNat]
  omega

/-- Settles O38: the two outcomes of the install, each written out, and the two arms of `exec_eq`. -/
theorem installStep : Obligations.InstallStep := by
  refine ⟨fun lf ld mf md r => ⟨fun hv => ?_, fun hv => ?_⟩,
    fun s => ⟨exec_eq .cmdApply s, exec_eq .cmdDefaults s⟩⟩
  · have hacc := (acceptable_iff lf ld mf md).2 hv
    obtain ⟨hled, hmag⟩ := hv
    obtain ⟨⟨-, hlf⟩, -, hld⟩ := (valid_iff lf ld).1 hled
    obtain ⟨⟨-, hmf⟩, -, hmd⟩ := (valid_iff mf md).1 hmag
    rw [install_accepted _ _ _ _ _ hacc, withCodes_valid hled, withCodes_valid hmag, ← zext32_ofNat hlf,
      ← zext32_ofNat (n := ld) (by omega), ← zext32_ofNat hmf, ← zext32_ofNat (n := md) (by omega)]
    rfl
  · rw [← acceptable_iff, Bool.not_eq_true] at hv
    rw [install_rejected _ _ _ _ _ hv]
    rfl

/-- The code registers hold valid codes without truncation. -/
theorem withCodes_codes {f d : Nat} (h : valid f d = true) (x : ChannelRegs) :
    (withCodes f d x).freq.toNat = f ∧ (withCodes f d x).duty.toNat = d := by
  obtain ⟨⟨-, hf⟩, -, hd⟩ := (valid_iff f d).1 h
  constructor
  · exact Nat.mod_eq_of_lt (by omega)
  · exact Nat.mod_eq_of_lt (by omega)

/-- The intervals are those of R72 for the codes beside them. -/
theorem withCodes_intervals {f d : Nat} (h : valid f d = true) (x : ChannelRegs) :
    (withCodes f d x).highUs.toNat = highTicks (withCodes f d x).freq.toNat (withCodes f d x).duty.toNat ∧
    (withCodes f d x).lowUs.toNat = lowTicks (withCodes f d x).freq.toNat (withCodes f d x).duty.toNat := by
  obtain ⟨hf, hd⟩ := withCodes_codes h x
  rw [hf, hd]
  exact calcPair_toNat h

/-- What an accepted install of four numbers leaves in the registers it writes (R117), as numbers. -/
structure Installed (lf ld mf md : Nat) (r : Regs) : Prop where
  ledFreq : r.led.freq.toNat = lf
  ledDuty : r.led.duty.toNat = ld
  magFreq : r.mag.freq.toNat = mf
  magDuty : r.mag.duty.toNat = md
  intervals : ∀ c, (chan c r).highUs.toNat = highTicks (chan c r).freq.toNat (chan c r).duty.toNat ∧
    (chan c r).lowUs.toNat = lowTicks (chan c r).freq.toNat (chan c r).duty.toNat
  reject : r.reject = false
  saveReq : r.saveReq = true
  synced : syncStaging r = r

theorem install_installed {lf ld mf md : Nat} (h : acceptable lf ld mf md = true) (r : Regs) :
    Installed lf ld mf md (install lf ld mf md r) := by
  obtain ⟨hled, hmag⟩ := (acceptable_iff lf ld mf md).1 h
  obtain ⟨hlf, hld⟩ := withCodes_codes hled r.led
  obtain ⟨hmf, hmd⟩ := withCodes_codes hmag r.mag
  rw [install_accepted _ _ _ _ _ h]
  refine ⟨hlf, hld, hmf, hmd, fun c => ?_, rfl, rfl, rfl⟩
  cases c
  · exact withCodes_intervals hled r.led
  · exact withCodes_intervals hmag r.mag

/-- The staging registers of a synced state, as numbers. -/
theorem Installed.staging {lf ld mf md : Nat} {r : Regs} (h : Installed lf ld mf md r) :
    r.stgLedFreq.toNat = lf ∧ r.stgLedDuty.toNat = ld ∧ r.stgMagFreq.toNat = mf ∧ r.stgMagDuty.toNat = md := by
  rw [← h.synced]
  exact ⟨(toNat_zext32 _).trans h.ledFreq, (toNat_zext32 _).trans h.ledDuty, (toNat_zext32 _).trans h.magFreq,
    (toNat_zext32 _).trans h.magDuty⟩

/-- Settles O39: the staged numbers are valid, so they are installed and staged again. -/
theorem applyInstallsValidSettings : Obligations.ApplyInstallsValidSettings := by
  intro s hlf hld hmf hmd
  have hacc := (acceptable_iff _ _ _ _).2 ⟨(valid_iff _ _).2 ⟨hlf, hld⟩, (valid_iff _ _).2 ⟨hmf, hmd⟩⟩
  have hinst := install_installed hacc s.regs
  obtain ⟨hslf, hsld, hsmf, hsmd⟩ := hinst.staging
  exact ⟨_, exec_eq .cmdApply s, hinst.ledFreq, hinst.ledDuty, hinst.magFreq, hinst.magDuty, hinst.intervals,
    hinst.reject, hinst.saveReq, BitVec.eq_of_toNat_eq hslf, BitVec.eq_of_toNat_eq hsld,
    BitVec.eq_of_toNat_eq hsmf, BitVec.eq_of_toNat_eq hsmd, rfl⟩

/-- Settles O41: the defaults are acceptable (R4), so they are installed; the rest is the frame of the install. -/
theorem defaultsAreAlwaysInstalled : Obligations.DefaultsAreAlwaysInstalled := by
  intro s hp
  have hinst := install_installed (defaults_acceptable s.params hp) s.regs
  obtain ⟨hslf, hsld, hsmf, hsmd⟩ := hinst.staging
  obtain ⟨-, hnow, hen, -, hmode, -, hbtn, hlast, hvalid⟩ := hostRegs_frame s.params .cmdDefaults s.regs
  exact ⟨_, exec_eq .cmdDefaults s, BitVec.eq_of_toNat_eq hinst.ledFreq, BitVec.eq_of_toNat_eq hinst.ledDuty,
    BitVec.eq_of_toNat_eq hinst.magFreq, BitVec.eq_of_toNat_eq hinst.magDuty, hinst.intervals, hinst.reject,
    hinst.saveReq, BitVec.eq_of_toNat_eq (hslf.trans (toNat_zext32 _).symm),
    BitVec.eq_of_toNat_eq (hsld.trans (toNat_zext32 _).symm), BitVec.eq_of_toNat_eq (hsmf.trans (toNat_zext32 _).symm),
    BitVec.eq_of_toNat_eq (hsmd.trans (toNat_zext32 _).symm), hen, hmode, hbtn, hlast, hvalid, hnow, rfl⟩

/-- Settles O42: no transaction writes these elements, so the two commands do not. -/
theorem commandsLeaveTheWaveformAlone : Obligations.CommandsLeaveTheWaveformAlone := by
  intro s t i _ hexec
  rw [exec_eq] at hexec
  cases hexec
  obtain ⟨hc, hnow, hen, hovr, hmode, hsince, hbtn, hlast, hvalid⟩ := hostRegs_frame s.params i s.regs
  exact ⟨hc, hnow, hen, hovr, hmode, hsince, hbtn, hlast, hvalid, rfl, rfl, rfl, rfl⟩

/-! ### Who writes a code or an interval (R31, R115) -/

/-- The codes of a channel and the intervals that go with them (R12, R13). -/
def ChannelRegs.waveform (x : ChannelRegs) : (U16 × U16) × U32 × U32 := ((x.freq, x.duty), x.highUs, x.lowUs)

theorem waveform_eq_iff {x y : ChannelRegs} : x.waveform = y.waveform ↔
    x.freq = y.freq ∧ x.duty = y.duty ∧ x.highUs = y.highUs ∧ x.lowUs = y.lowUs := by
  simp [ChannelRegs.waveform, and_assoc]

@[simp] theorem waveform_countdownChan (b : Bool) (x : ChannelRegs) : (countdownChan b x).waveform = x.waveform :=
  waveform_eq_iff.2 ⟨countdownChan_freq b x, countdownChan_duty b x, countdownChan_highUs b x, countdownChan_lowUs b x⟩

@[simp] theorem waveform_startedIf (e : Bool) (x : ChannelRegs) : (startedIf e x).waveform = x.waveform :=
  waveform_eq_iff.2 ⟨startedIf_freq e x, startedIf_duty e x, startedIf_highUs e x, startedIf_lowUs e x⟩

@[simp] theorem waveform_chan_idlePhase (c : Channel) (p : Params) (r : Regs) :
    (chan c (idlePhase p r)).waveform = (chan c r).waveform :=
  waveform_eq_iff.2 ⟨chan_idlePhase_freq c p r, chan_idlePhase_duty c p r, chan_idlePhase_highUs c p r,
    chan_idlePhase_lowUs c p r⟩

/-- Of the controller's actions only the entry to RUN (R126) writes a code or an interval. -/
theorem waveform_chan_controllerAction {p : Params} {r : Regs} (h : ¬ (p.legacyModes = true ∧ r.mode = .allOff))
    (c : Channel) : (chan c (controllerAction p r)).waveform = (chan c r).waveform := by
  cases hl : p.legacyModes
  · rw [controllerAction_canonical r hl]
    split
    · cases c <;> rfl
    · rw [enable, chan_start_both, waveform_startedIf, chan_with_en]
  · rw [controllerAction_legacy p r hl, advanceMode]
    cases hm : r.mode
    case allOff => exact absurd ⟨hl, hm⟩ h
    all_goals cases c <;> rfl

theorem waveform_chan_buttonPhase {p : Params} {btn : Bool} {r : Regs}
    (h : ¬ (p.legacyModes = true ∧ acceptsEdge p btn r = true ∧ r.mode = .allOff)) (c : Channel) :
    (chan c (buttonPhase p btn r)).waveform = (chan c r).waveform := by
  cases ha : acceptsEdge p btn r
  · rw [buttonPhase_quiet p btn r ha, chan_with_btnPrev]
  · rw [buttonPhase_accepted p btn r ha, waveform_chan_controllerAction]
    · cases c <;> rfl
    · exact fun ⟨hl, hm⟩ => h ⟨hl, ha, hm⟩

/-- P0 to P2 with no entry to RUN. -/
theorem waveform_chan_regsBeforeHost {p : Params} {btn : Bool} {r : Regs}
    (h : ¬ (p.legacyModes = true ∧ acceptsEdge p btn r = true ∧ r.mode = .allOff)) (c : Channel) :
    (chan c (regsBeforeHost p btn r)).waveform = (chan c r).waveform := by
  rw [regsBeforeHost, waveform_chan_buttonPhase, chan_timerPhase, waveform_countdownChan, chan_clearSaveReq]
  rw [acceptsEdge_beforeButton, timerPhase_mode]
  exact h

/-- A rejected install writes no live code (R117). -/
theorem waveform_chan_install_rejected {lf ld mf md : Nat} (h : acceptable lf ld mf md = false) (r : Regs)
    (c : Channel) : (chan c (install lf ld mf md r)).waveform = (chan c r).waveform := by
  rw [install_rejected _ _ _ _ _ h]
  cases c <;> rfl

theorem waveform_chan_hostRegs {p : Params} {i : Instr} {r : Regs} (h : acceptsInstall p r i = false) (c : Channel) :
    (chan c (hostRegs p i r)).waveform = (chan c r).waveform := by
  cases i
  case cmdApply => exact waveform_chan_install_rejected h r c
  case cmdDefaults => exact waveform_chan_install_rejected h r c
  all_goals cases c <;> rfl

/-- Settles O47, phase by phase: P4 never writes a code or an interval, P3 only in an accepted install, P2 only in an
entry to RUN, P1 and P0 never. -/
theorem codesChangeOnlyByInstallOrRunEntry : Obligations.CodesChangeOnlyByInstallOrRunEntry := by
  intro s t c hstep hr hinstall hrun
  rw [step_tick s hr] at hstep
  cases hstep
  rw [installAccepted_eq] at hinstall
  apply waveform_eq_iff.1
  calc (chan c (afterTick s).regs).waveform
      = (chan c (hostRegs s.params (comingTxn s)
          (regsBeforeHost s.params (nextInput s).pins.btn s.regs))).waveform := by
        rw [afterTick_regs, chan_regsAfterHost, waveform_chan_idlePhase]
    _ = (chan c (regsBeforeHost s.params (nextInput s).pins.btn s.regs)).waveform := waveform_chan_hostRegs hinstall c
    _ = (chan c s.regs).waveform := waveform_chan_regsBeforeHost hrun c

end Sys2Proof.Machine
end

section
/-! PROOFS. The family `44_mode_sequencer.md`: the three transitions and the idle timeout, each action written out, how
long RUN lasts, and the canonical variant, which has no modes. -/

namespace Sys2Proof.Machine

/-! ### The transitions (R123 to R126) -/

/-- An accepted edge in the legacy variant advances the mode of the registers as acceptance leaves them (R92, R123). -/
theorem buttonPhase_legacy {p : Params} {btn : Bool} {r : Regs} (hl : p.legacyModes = true)
    (ha : acceptsEdge p btn r = true) : buttonPhase p btn r =
      advanceMode p { r with btnPrev := btn, lastAccept := r.now, lastValid := true } := by
  rw [buttonPhase_accepted p btn r ha, controllerAction_legacy p _ hl]

theorem advanceMode_run {p : Params} {r : Regs} (h : r.mode = .run) : advanceMode p r = runToMagnetOff r := by
  rw [advanceMode, h]

theorem advanceMode_magnetOff {p : Params} {r : Regs} (h : r.mode = .magnetOff) :
    advanceMode p r = magnetOffToAllOff r := by
  rw [advanceMode, h]

theorem advanceMode_allOff {p : Params} {r : Regs} (h : r.mode = .allOff) : advanceMode p r = enterRun p r := by
  rw [advanceMode, h]

theorem runToMagnetOff_eq (r : Regs) : runToMagnetOff r =
    { r with mode := .magnetOff, magOvr := true, mag := { r.mag with level := false, armed := false } } := rfl

theorem magnetOffToAllOff_eq (r : Regs) : magnetOffToAllOff r =
    { r with
      mode := .allOff, en := false
      led := { r.led with level := false, armed := false }
      mag := { r.mag with level := false, armed := false } } := rfl

/-- The magnet channel with the base frequency and its intervals (R126), before the start. -/
theorem enterRun_eq (p : Params) (r : Regs) : enterRun p r =
    { loadBaseFreq p r with
      mode := .run, en := true, magOvr := false, runSince := r.now
      led := if r.led.fail then r.led else { r.led with level := false, armed := true, cnt := r.led.lowUs }
      mag := if r.mag.fail then (loadBaseFreq p r).mag
        else { (loadBaseFreq p r).mag with
          level := false, armed := true, cnt := (loadBaseFreq p r).mag.lowUs } } := by
  rw [enterRun, start_eq_setChan .mag, start_eq_setChan .led]
  rfl

/-- Settles O28: the action of each mode, on the registers as acceptance leaves them. -/
theorem modeTransitionsOutOfRunAndMagnetOff : Obligations.ModeTransitionsOutOfRunAndMagnetOff := by
  intro p btn r hl ha
  rw [buttonPhase_legacy hl ha]
  refine ⟨fun hm => ?_, fun hm => ?_⟩
  · exact Eq.trans (advanceMode_run hm) (runToMagnetOff_eq _)
  · exact Eq.trans (advanceMode_magnetOff hm) (magnetOffToAllOff_eq _)

/-- Settles O29: the two starts come after the base frequency is loaded, so the magnet starts with its new `LOW_US`. -/
theorem entryToRun : Obligations.EntryToRun := by
  intro p btn r hl ha hm
  rw [buttonPhase_legacy hl ha]
  exact Eq.trans (advanceMode_allOff hm) (enterRun_eq p _)

/-! ### The idle timeout (R127) -/

theorem idleDue_eq_true {p : Params} {r : Regs} : idleDue p r = true ↔
    p.legacyModes = true ∧ r.mode = .run ∧ p.idleTimeoutUs ≤ elapsedSince r.runSince r := by
  simp [idleDue, and_assoc]

theorem idleShutoff_eq (r : Regs) : idleShutoff r =
    { r with
      mode := .allOff, en := false, magOvr := true
      led := { r.led with level := false, armed := false }
      mag := { r.mag with level := false, armed := false } } := rfl

/-- Settles O30: the condition is that of `idleDue`, which selects the shut-off or nothing. -/
theorem idleTimeoutShutsOff : Obligations.IdleTimeoutShutsOff := by
  intro p r
  rw [← elapsedSince_eq_mod, ← idleDue_eq_true]
  refine ⟨fun hdue => ?_, fun hdue => idlePhase_quiet p r (Bool.eq_false_of_not_eq_true hdue)⟩
  rw [idlePhase_due p r hdue, idleShutoff_eq]

/-! ### How long RUN lasts (R129) -/

/-- P5 makes a stored time at most one tick older; at the wrap its age falls to 0. -/
theorem elapsedSince_advanceNow_le (t : U64) (r : Regs) : elapsedSince t (advanceNow r) ≤ elapsedSince t r + 1 := by
  rw [elapsedSince, elapsedSince, advanceNow]
  bv_omega

/-- A tick through its phases that ends in RUN has passed P4 with the timeout not due, and P5 adds one tick. -/
theorem regsAfterHost_run_le {p : Params} {r : Regs} (hl : p.legacyModes = true)
    (hm : (regsAfterHost p r).mode = .run) :
    elapsedSince (regsAfterHost p r).runSince (regsAfterHost p r) ≤ p.idleTimeoutUs := by
  cases hdue : idleDue p r
  · rw [regsAfterHost, idlePhase_quiet p r hdue] at hm ⊢
    have hearly : ¬ p.idleTimeoutUs ≤ elapsedSince r.runSince r := fun hlate =>
      Bool.false_ne_true (hdue.symm.trans (idleDue_eq_true.2 ⟨hl, hm, hlate⟩))
    exact (elapsedSince_advanceNow_le r.runSince r).trans (Nat.lt_of_not_le hearly)
  · rw [regsAfterHost, idlePhase_due p r hdue] at hm
    cases hm

/-- In the legacy variant an armed magnet channel is enabled, which its override allows in RUN alone (R30, items 3 and
9). -/
theorem RegsInv.run_of_mag_armed {p : Params} {r : Regs} (h : RegsInv p r) (hl : p.legacyModes = true)
    (ha : r.mag.armed = true) : r.mode = .run := by
  have harmed : (r.en && !r.magOvr && !r.mag.fail) = true := (h.armedIff .mag).symm.trans ha
  obtain ⟨hm, -, -⟩ | ⟨-, -, hovr⟩ | ⟨-, -, hovr⟩ := h.legacyMode hl
  · exact hm
  · simp [hovr] at harmed
  · simp [hovr] at harmed

/-- R129, first half: `RUN_SINCE` and `NOW` are both 0 after a reset tick. -/
theorem step_run_le {s t : State} (hl : s.params.legacyModes = true) (hstep : step s = .next t)
    (hm : t.regs.mode = .run) : elapsedSince t.regs.runSince t.regs ≤ s.params.idleTimeoutUs := by
  obtain ⟨-, rfl⟩ | ⟨-, rfl⟩ := step_cases hstep
  · simp [elapsedSince]
  · exact regsAfterHost_run_le hl hm

/-- Settles O31: the bound of `step_run_le`; an armed magnet means RUN, since the tick keeps R30. -/
theorem runNeverOutlastsTheIdleTimeout : Obligations.RunNeverOutlastsTheIdleTimeout := by
  intro s t _ hl hstep
  refine ⟨step_run_le hl hstep, fun hg ha => ?_⟩
  have hgt := everyStepKeepsTheGoodState s t hg hstep
  have hlt : t.params.legacyModes = true := (congrArg Params.legacyModes (parametersNeverChange s t hstep)).trans hl
  have hm := hgt.regs.run_of_mag_armed hlt ha
  exact ⟨hm, step_run_le hl hstep hm⟩

/-! ### The canonical variant has no modes (R132) -/

/-- The registers that only the Mode Sequencer and reset write (R19 to R21). -/
def Regs.modeRegs (r : Regs) : Mode × Bool × U64 := (r.mode, r.magOvr, r.runSince)

theorem modeRegs_eq_iff {r : Regs} {m : Mode} {o : Bool} {t : U64} :
    r.modeRegs = (m, o, t) ↔ r.mode = m ∧ r.magOvr = o ∧ r.runSince = t := by
  simp [Regs.modeRegs]

theorem modeRegs_resetRegs_canonical {p : Params} (f : Straps) (hl : p.legacyModes = false) :
    (resetRegs p f).modeRegs = (.off, false, 0) :=
  modeRegs_eq_iff.2 ((resetRegs_modeInv p f).canonical hl)

theorem modeRegs_timerPhase (r : Regs) : (timerPhase r).modeRegs = r.modeRegs :=
  modeRegs_eq_iff.2 ⟨timerPhase_mode r, timerPhase_magOvr r, timerPhase_runSince r⟩

theorem modeRegs_controllerAction_canonical {p : Params} (r : Regs) (hl : p.legacyModes = false) :
    (controllerAction p r).modeRegs = r.modeRegs := by
  rw [controllerAction_canonical r hl]
  split
  · rw [disable_eq]
    rfl
  · rw [enable_eq]
    rfl

theorem modeRegs_buttonPhase_canonical {p : Params} (btn : Bool) (r : Regs) (hl : p.legacyModes = false) :
    (buttonPhase p btn r).modeRegs = r.modeRegs := by
  cases ha : acceptsEdge p btn r
  · rw [buttonPhase_quiet p btn r ha]
    rfl
  · rw [buttonPhase_accepted p btn r ha, modeRegs_controllerAction_canonical _ hl]
    rfl

theorem modeRegs_hostRegs (p : Params) (i : Instr) (r : Regs) : (hostRegs p i r).modeRegs = r.modeRegs := by
  obtain ⟨-, -, -, hovr, hmode, hsince, -⟩ := hostRegs_frame p i r
  exact modeRegs_eq_iff.2 ⟨hmode, hovr, hsince⟩

/-- No phase of a tick writes them. -/
theorem modeRegs_afterTick_canonical {s : State} (hl : s.params.legacyModes = false) :
    (afterTick s).regs.modeRegs = s.regs.modeRegs := by
  rw [afterTick_regs, regsAfterHost_canonical _ hl]
  calc (hostRegs s.params (comingTxn s) (regsBeforeHost s.params (nextInput s).pins.btn s.regs)).modeRegs
      = (regsBeforeHost s.params (nextInput s).pins.btn s.regs).modeRegs := modeRegs_hostRegs _ _ _
    _ = (timerPhase (clearSaveReq s.regs)).modeRegs := modeRegs_buttonPhase_canonical _ _ hl
    _ = s.regs.modeRegs := modeRegs_timerPhase _

theorem step_modeRegs_canonical {s t : State} (hl : s.params.legacyModes = false) (hstep : step s = .next t)
    (h : s.regs.modeRegs = (.off, false, 0)) : t.regs.modeRegs = (.off, false, 0) := by
  obtain ⟨-, rfl⟩ | ⟨-, rfl⟩ := step_cases hstep
  · exact modeRegs_resetRegs_canonical _ hl
  · exact (modeRegs_afterTick_canonical hl).trans h

/-- `STATUS[8]` is `MAG_OVR` (R34). -/
theorem statusWord_magOvr (r : Regs) : (statusWord r).getLsbD 8 = r.magOvr := by
  rw [statusWord_getLsbD]
  simp

/-- Settles O32: reset gives the three registers 0, every tick keeps them, and `STATUS` shows them. -/
theorem canonicalVariantHasNoModes : Obligations.CanonicalVariantHasNoModes := by
  refine fun p hl => ⟨fun f => modeRegs_eq_iff.1 (modeRegs_resetRegs_canonical f hl), fun r => ⟨?_, ?_⟩,
    fun s t hp hstep hmode hovr hsince => ?_, fun r hmode hovr => ⟨?_, ?_⟩⟩
  · exact idlePhase_quiet p r (idleDue_canonical p r hl)
  · exact controllerAction_canonical r hl
  · exact modeRegs_eq_iff.1 (step_modeRegs_canonical (hp ▸ hl) hstep (modeRegs_eq_iff.2 ⟨hmode, hovr, hsince⟩))
  · exact (statusWord_mode r).trans (congrArg Mode.code hmode)
  · exact (statusWord_magOvr r).trans hovr

end Sys2Proof.Machine
end

section
/-! PROOFS. The family `45_tick_step.md`: the reset tick, the tick around its transaction, `NOW`, and the procedure of
R144, phase by phase. -/

namespace Sys2Proof.Machine

/-! ### The two kinds of tick (R136, R139, R143) -/

/-- Settles O1: the reset tick reads nothing of the state but the parameters and the inputs it takes. -/
theorem resetTickGivesTheResetState : Obligations.ResetTickGivesTheResetState := by
  intro s hr
  have hrdata : (outputs s).rdata = 0 := by rw [outputs_rdata, if_pos hr]
  exact ⟨hrdata, resetTick (takeInput s), step_reset s hr, rfl, resetRegs_now _ _, rfl, rfl, rfl, rfl, rfl⟩

/-- Settles O5: the pins that `takeInput` samples select the second branch of `step`. -/
theorem stepRunsTheDecodedTransaction : Obligations.StepRunsTheDecodedTransaction := by
  rintro s i hr rfl
  have hpins : ¬ (takeInput s).pins.rst = true := Bool.eq_false_iff.1 hr
  exact if_neg hpins

/-- Settles O8: only P5 writes `NOW` in a tick that is no reset tick. -/
theorem nowCountsTicksSinceReset : Obligations.NowCountsTicksSinceReset := by
  intro s t hstep
  obtain ⟨hr, rfl⟩ | ⟨hr, rfl⟩ := step_cases hstep
  · simp [hr]
  · simp [hr, afterTick_now]

/-! ### The phases of R144 -/

/-- The P1 loop body of R144 compares `CNT[c]` as a number, its three ranges being those of R82. -/
theorem pseudoTimer_eq_countdown (c : Channel) (r : Regs) : pseudoTimer c r = countdown c r := by
  have hzero : (chan c r).cnt = 0 ↔ (chan c r).cnt.toNat = 0 := BitVec.toNat_inj.symm
  have hone : (chan c r).cnt = 1 ↔ (chan c r).cnt.toNat = 1 := BitVec.toNat_inj.symm
  rw [countdown, pseudoTimer]
  by_cases h0 : (chan c r).cnt.toNat = 0
  · rw [if_pos (hzero.2 h0), if_neg (by omega), if_neg (by omega)]
  · rw [if_neg (mt hzero.1 h0)]
    by_cases h1 : (chan c r).cnt.toNat = 1
    · rw [if_pos h1, if_pos (hone.2 h1)]
      cases c <;> rfl
    · have hpred : BitVec.ofNat 32 ((chan c r).cnt.toNat - 1) = (chan c r).cnt - 1 := by bv_omega
      rw [if_neg h1, if_neg (mt hone.1 h1), if_pos (by omega), hpred]

theorem pseudoEnterRun_eq_enterRun (p : Params) (r : Regs) : pseudoEnterRun p r = enterRun p r := by
  have hcode : BitVec.ofNat 32 p.magBaseFreq.toNat = zext32 p.magBaseFreq := BitVec.ofNat_toNat 32 _
  simp only [pseudoEnterRun, hcode, enterRun, loadBaseFreq]

/-- The mode branches of R144; none of them is for `OFF`. -/
theorem advanceMode_eq_branches (p : Params) (r : Regs) : advanceMode p r =
    if r.mode = .run then runToMagnetOff r
    else if r.mode = .magnetOff then magnetOffToAllOff r
    else if r.mode = .allOff then pseudoEnterRun p r
    else r := by
  rw [pseudoEnterRun_eq_enterRun, advanceMode]
  cases r.mode <;> rfl

theorem pseudoAccepted_eq_acceptEdge (p : Params) (r : Regs) : pseudoAccepted p r = acceptEdge p r := by
  rw [acceptEdge, pseudoAccepted]
  cases hl : p.legacyModes
  · rw [controllerAction_canonical _ hl]
    rfl
  · rw [controllerAction_legacy p _ hl, advanceMode_eq_branches]
    rfl

/-- P2: R144 takes the sample before the debounce test, which does not read it. -/
theorem pseudoButton_eq_buttonPhase (p : Params) (btn : Bool) (r : Regs) :
    pseudoButton p btn r = buttonPhase p btn r := by
  have haccepts : ((r.btnPrev == true && btn == false) = true ∧
      (r.lastValid = false ∨ p.debounceUs ≤ (r.now - r.lastAccept).toNat)) ↔ acceptsEdge p btn r = true := by
    rw [acceptsEdge_eq_true, fallingEdge_eq_true, passesDebounce_eq_true]
    simp [elapsedSince]
  rw [pseudoButton]
  cases ha : acceptsEdge p btn r
  · rw [buttonPhase_quiet p btn r ha]
    exact if_neg (mt haccepts.1 (Bool.eq_false_iff.1 ha))
  · rw [buttonPhase_accepted p btn r ha]
    exact (if_pos (haccepts.2 ha)).trans (pseudoAccepted_eq_acceptEdge p _)

theorem pseudoIdle_eq_idlePhase (p : Params) (r : Regs) : pseudoIdle p r = idlePhase p r := by
  rw [pseudoIdle, idlePhase]
  exact if_congr idleDue_eq_true.symm rfl rfl

/-! ### P3 of R144, over the fields of the word as numbers -/

theorem toNat_opField (t : TxnWord) : (opField t).toNat = t.toNat / 2 ^ 36 % 4 := by
  rw [opField, BitVec.extractLsb'_toNat, Nat.shiftRight_eq_div_pow]

theorem toNat_addrField (t : TxnWord) : (addrField t).toNat = t.toNat / 2 ^ 32 % 16 := by
  rw [addrField, BitVec.extractLsb'_toNat, Nat.shiftRight_eq_div_pow]

theorem toNat_dataField (t : TxnWord) : (dataField t).toNat = t.toNat % 2 ^ 32 := by
  rw [dataField, BitVec.extractLsb'_toNat, Nat.shiftRight_zero]

/-- A transaction that is no write leaves the registers alone. -/
theorem hostRegs_decode_of_not_write (p : Params) {t : TxnWord} (r : Regs) (h : opField t ≠ 2) :
    hostRegs p (decode t) r = r := by
  obtain hop | hop | hop | hop := opField_cases t
  · rw [decode_nop hop, hostRegs]
  · rw [decode_rd hop, hostRegs]
  · exact absurd hop h
  · rw [decode_rsvd3 hop, hostRegs]

/-- A write, by its address, is the `MemWrite` of R42. -/
theorem pseudoHost_write (p : Params) (a : RegName) (v : U32) (r : Regs) :
    pseudoHost p (txnWord 2 a.addr v).toNat r = memWrite p a v r := by
  have hdata : BitVec.ofNat 32 v.toNat = v := by simp
  have happly : v.toNat = 1 ↔ v = 1 := BitVec.toNat_inj (y := 1)
  have hdefaults : v.toNat = 2 ↔ v = 2 := BitVec.toNat_inj (y := 2)
  simp only [pseudoHost, ← toNat_opField, ← toNat_addrField, ← toNat_dataField, opField_txnWord, addrField_txnWord,
    dataField_txnWord, hdata, happly, hdefaults]
  cases a
  case cmd => exact (if_pos rfl).trans (if_congr (and_iff_right rfl) rfl (if_congr (and_iff_right rfl) rfl rfl))
  all_goals rfl

theorem pseudoHost_eq_hostRegs (p : Params) (t : TxnWord) (r : Regs) :
    pseudoHost p t.toNat r = hostRegs p (decode t) r := by
  by_cases hop : opField t = 2
  · have ht : txnWord 2 (RegName.ofAddr (addrField t)).addr (dataField t) = t := by
      rw [addr_ofAddr, ← hop, txnWord_fields]
    rw [decode_write hop, hostRegs_decodeWrite, ← pseudoHost_write, ht]
  · have hop' : ¬ t.toNat / 2 ^ 36 % 4 = 2 := by
      rw [← toNat_opField]
      exact mt (BitVec.toNat_inj (y := 2)).1 hop
    rw [hostRegs_decode_of_not_write p r hop, pseudoHost, if_neg hop']

/-! ### The whole tick -/

theorem pseudoTick_reset (p : Params) {i : TickInput} (r : Regs) (h : i.pins.rst = true) :
    pseudoTick p i r = resetRegs p i.pins.initFail := by
  rw [pseudoTick, if_pos h]

/-- `regsBeforeHost` is P0 to P2 and `regsAfterHost` is P4 and P5, so only the order of R136 is left to compare. -/
theorem pseudoTick_phases (p : Params) {i : TickInput} (r : Regs) (h : i.pins.rst = false) :
    pseudoTick p i r = regsAfterHost p (hostRegs p (decode i.host) (regsBeforeHost p i.pins.btn r)) := by
  have hnow : ∀ n : U64, BitVec.ofNat 64 ((n.toNat + 1) % 2 ^ 64) = n + 1 := fun n => by bv_omega
  simp only [pseudoTick, h, pseudoTimer_eq_countdown, pseudoButton_eq_buttonPhase, pseudoHost_eq_hostRegs,
    pseudoIdle_eq_idlePhase, hnow]
  rfl

/-- What a word drives on `rdata`, by its fields. -/
theorem readData_decode (t : TxnWord) (r : Regs) :
    readData (decode t) r = if opField t = 1 then memRead (RegName.ofAddr (addrField t)) r else 0 := by
  obtain hop | hop | hop | hop := opField_cases t
  · rw [decode_nop hop, hop]
    rfl
  · rw [decode_rd hop, if_pos hop]
    rfl
  · rw [decode_write hop, readData_of_not_rd (decodeWrite_ne_rd _ _), hop]
    rfl
  · rw [decode_rsvd3 hop, hop]
    rfl

/-- `rdata` as the second procedure of R144 gives it, over the fields of the word as numbers. -/
theorem outputs_rdata_fields (s : State) : (outputs s).rdata =
    if (nextInput s).pins.rst = false ∧ (nextInput s).host.toNat / 2 ^ 36 % 4 = 1 then
      memRead (RegName.ofAddr (BitVec.ofNat 4 ((nextInput s).host.toNat / 2 ^ 32 % 16))) s.regs
    else 0 := by
  have haddr : BitVec.ofNat 4 (addrField (nextInput s).host).toNat = addrField (nextInput s).host := by simp
  have hread : (opField (nextInput s).host).toNat = 1 ↔ opField (nextInput s).host = 1 := BitVec.toNat_inj (y := 1)
  rw [outputs_rdata, comingTxn, readData_decode, isResetTick, ← toNat_opField, ← toNat_addrField, haddr]
  cases (nextInput s).pins.rst
  · simp [hread]
  · rfl

/-- Settles O7: each phase of R144 is the phase of the model, and the lines are the levels of `outputs`. -/
theorem stepIsTheProcedureOfR144 : Obligations.StepIsTheProcedureOfR144 := by
  refine fun s => ⟨?_, rfl, List.length_replicate, fun x hx => List.eq_of_mem_replicate hx, rfl,
    outputs_rdata_fields s⟩
  cases hr : isResetTick s
  · exact ⟨afterTick s, step_tick s hr, (pseudoTick_phases s.params s.regs hr).symm⟩
  · exact ⟨resetTick (takeInput s), step_reset s hr, (pseudoTick_reset s.params s.regs hr).symm⟩

end Sys2Proof.Machine
end

section
/-! PROOFS. The family `60_exceptions.md`: the rejected install, the records of the four error kinds, and what an accepted
edge makes of an expiry, an install or the idle timeout of the same tick. -/

namespace Sys2Proof.Machine

/-! ### InvalidParameter (R145, R146) -/

/-- A `CMD.APPLY` that R117 rejects raises InvalidParameter and takes the staging registers back to the live codes. -/
theorem exec_cmdApply_rejected (s : State)
    (h : acceptable s.regs.stgLedFreq.toNat s.regs.stgLedDuty.toNat s.regs.stgMagFreq.toNat
      s.regs.stgMagDuty.toNat = false) :
    exec .cmdApply s = .next { s with regs := syncStaging (raise .invalidParameter s.regs), rdata := 0 } := by
  rw [raise_invalidParameter, ← install_rejected _ _ _ _ _ h]
  exact exec_eq .cmdApply s

/-- Settles O40: the defaults are acceptable; of the phases only P3 writes `REJECT`, in an install command; and staged
numbers that break a range of R70 are rejected. -/
theorem applyRejectsAllOrNothing : Obligations.ApplyRejectsAllOrNothing := by
  refine ⟨fun s t hp hexec => ?_, fun s t hstep hset hclear => ?_, fun s hrange => ?_⟩
  · rw [exec_eq] at hexec
    cases hexec
    exact (install_installed (defaults_acceptable s.params hp) s.regs).reject
  · obtain ⟨hr, -⟩ | ⟨-, rfl⟩ := step_cases hstep
    · exact .inl hr
    · rw [afterTick_reject] at hclear
      split at hclear
      · exact .inr (by simpa using hclear)
      · exact absurd (hset.symm.trans hclear) (by decide)
  · have hrej : acceptable s.regs.stgLedFreq.toNat s.regs.stgLedDuty.toNat s.regs.stgMagFreq.toNat
        s.regs.stgMagDuty.toNat = false := by
      rwa [← Bool.not_eq_true, acceptable_iff, valid_iff, valid_iff, and_assoc]
    exact exec_cmdApply_rejected s hrej

/-- Settles O60: each cause by the lemma about the operation that raises it. -/
theorem errorsAreStatusBits : Obligations.ErrorsAreStatusBits :=
  ⟨exec_cmdApply_rejected, fun p f => ⟨chan_resetRegs_fail .led p f, chan_resetRegs_fail .mag p f⟩,
    fun p btn r _ hdrop => buttonPhase_quiet p btn r (acceptsEdge_eq_false.2 (.inr hdrop)),
    rfl, fun _ => rfl, rfl, rfl, fun _ => ⟨rfl, fun _ => rfl, rfl, rfl⟩⟩

/-! ### A tick with an accepted edge (R153) -/

/-- The registers that the controller finds on an accepted edge: P0 and P1 have run, and acceptance has written (R92). -/
def regsAtAcceptance (btn : Bool) (r : Regs) : Regs :=
  { timerPhase (clearSaveReq r) with
    btnPrev := btn, lastAccept := (timerPhase (clearSaveReq r)).now, lastValid := true }

theorem regsBeforeHost_accepted {p : Params} {btn : Bool} {r : Regs} (h : acceptsEdge p btn r = true) :
    regsBeforeHost p btn r = controllerAction p (regsAtAcceptance btn r) := by
  rw [← acceptsEdge_beforeButton] at h
  exact buttonPhase_accepted p btn _ h

@[simp] theorem regsAtAcceptance_en (btn : Bool) (r : Regs) : (regsAtAcceptance btn r).en = r.en :=
  timerPhase_en (clearSaveReq r)

@[simp] theorem regsAtAcceptance_mode (btn : Bool) (r : Regs) : (regsAtAcceptance btn r).mode = r.mode :=
  timerPhase_mode (clearSaveReq r)

@[simp] theorem regsAtAcceptance_now (btn : Bool) (r : Regs) : (regsAtAcceptance btn r).now = r.now :=
  timerPhase_now (clearSaveReq r)

@[simp] theorem regsAtAcceptance_stgLedFreq (btn : Bool) (r : Regs) :
    (regsAtAcceptance btn r).stgLedFreq = r.stgLedFreq :=
  timerPhase_stgLedFreq (clearSaveReq r)

@[simp] theorem regsAtAcceptance_stgLedDuty (btn : Bool) (r : Regs) :
    (regsAtAcceptance btn r).stgLedDuty = r.stgLedDuty :=
  timerPhase_stgLedDuty (clearSaveReq r)

@[simp] theorem regsAtAcceptance_stgMagDuty (btn : Bool) (r : Regs) :
    (regsAtAcceptance btn r).stgMagDuty = r.stgMagDuty :=
  timerPhase_stgMagDuty (clearSaveReq r)

@[simp] theorem regsAtAcceptance_saveReq (btn : Bool) (r : Regs) : (regsAtAcceptance btn r).saveReq = false :=
  timerPhase_saveReq (clearSaveReq r)

/-- The tick's own countdown comes before the controller (R136). -/
theorem chan_regsAtAcceptance (c : Channel) (btn : Bool) (r : Regs) :
    chan c (regsAtAcceptance btn r) = countdownChan (mayToggle c r) (chan c r) := by
  have hmay : mayToggle c (clearSaveReq r) = mayToggle c r := by cases c <;> rfl
  have hchan : chan c (regsAtAcceptance btn r) = chan c (timerPhase (clearSaveReq r)) := by cases c <;> rfl
  rw [hchan, chan_timerPhase, hmay, chan_clearSaveReq]

theorem chan_regsAtAcceptance_duty (c : Channel) (btn : Bool) (r : Regs) :
    (chan c (regsAtAcceptance btn r)).duty = (chan c r).duty := by
  rw [chan_regsAtAcceptance, countdownChan_duty]

theorem chan_regsAtAcceptance_lowUs (c : Channel) (btn : Bool) (r : Regs) :
    (chan c (regsAtAcceptance btn r)).lowUs = (chan c r).lowUs := by
  rw [chan_regsAtAcceptance, countdownChan_lowUs]

theorem chan_regsAtAcceptance_fail (c : Channel) (btn : Bool) (r : Regs) :
    (chan c (regsAtAcceptance btn r)).fail = (chan c r).fail := by
  rw [chan_regsAtAcceptance, countdownChan_fail]

theorem waveform_chan_regsAtAcceptance (c : Channel) (btn : Bool) (r : Regs) :
    (chan c (regsAtAcceptance btn r)).waveform = (chan c r).waveform := by
  rw [chan_regsAtAcceptance, waveform_countdownChan]

/-- The idle timeout does not fire in this tick: P3 acts on what the controller leaves, and `NOW` goes up. -/
theorem afterTick_regs_of_accepted {s : State} (hp : s.params.WellFormed) (he : edgeAccepted s = true) :
    (afterTick s).regs = advanceNow (hostRegs s.params (comingTxn s)
      (controllerAction s.params (regsAtAcceptance (nextInput s).pins.btn s.regs))) := by
  have hidle : idleFires s = false := by simp [idleFires, he]
  have hdue := (idleDue_after_hostRegs hp).trans hidle
  rw [afterTick_regs, regsAfterHost, idlePhase_quiet _ _ hdue, regsBeforeHost_accepted he]

/-- The elements of the device that no transaction writes: `EN`, the mode registers, and the timer of each channel
(R31). -/
structure SameDevice (r r' : Regs) : Prop where
  en : r.en = r'.en
  modeRegs : r.modeRegs = r'.modeRegs
  level : ∀ c, (chan c r).level = (chan c r').level
  armed : ∀ c, (chan c r).armed = (chan c r').armed
  cnt : ∀ c, (chan c r).cnt = (chan c r').cnt

theorem SameDevice.started {r r' : Regs} (h : SameDevice r r') (c : Channel) {n : U32}
    (hs : (chan c r').level = false ∧ (chan c r').armed = true ∧ (chan c r').cnt = n) :
    (chan c r).level = false ∧ (chan c r).armed = true ∧ (chan c r).cnt = n := by
  rwa [h.level, h.armed, h.cnt]

/-- A tick with an accepted edge leaves the device as the controller does, whatever the transaction. -/
theorem afterTick_device_of_accepted {s : State} (hp : s.params.WellFormed) (he : edgeAccepted s = true) :
    SameDevice (afterTick s).regs
      (controllerAction s.params (regsAtAcceptance (nextInput s).pins.btn s.regs)) := by
  rw [afterTick_regs_of_accepted hp he]
  exact {
    en := hostRegs_en _ _ _
    modeRegs := modeRegs_hostRegs _ _ _
    level := fun c => (congrArg _ (chan_with_now c _ _)).trans (chan_hostRegs_level c _ _ _)
    armed := fun c => (congrArg _ (chan_with_now c _ _)).trans (chan_hostRegs_armed c _ _ _)
    cnt := fun c => (congrArg _ (chan_with_now c _ _)).trans (chan_hostRegs_cnt c _ _ _) }

/-- R86: a channel that has not failed starts. -/
theorem startedIf_sound {x : ChannelRegs} (h : x.fail = false) :
    (startedIf true x).level = false ∧ (startedIf true x).armed = true ∧ (startedIf true x).cnt = x.lowUs := by
  simp [startedIf, h]

theorem chan_disable (c : Channel) (r : Regs) :
    chan c (disable r) = { chan c r with level := false, armed := false } := by
  rw [disable, chan_with_en, chan_stop_both]

theorem chan_enable (c : Channel) (r : Regs) : chan c (enable r) = startedIf true (chan c r) := by
  rw [enable, chan_start_both, chan_with_en]

/-- Settles O49: the controller finds the channel after its countdown. A disable keeps the reload of an expiry as the
count; an enable starts with the `LOW_US` of before the tick, which no countdown writes. -/
theorem coincidencesWithTheButton : Obligations.CoincidencesWithTheButton := by
  intro s t c hg hl hr he hstep
  rw [step_tick s hr] at hstep
  cases hstep
  have hdevice := afterTick_device_of_accepted hg.params he
  rw [hdevice.en, hdevice.level, hdevice.armed, hdevice.cnt, controllerAction_canonical _ hl, regsAtAcceptance_en]
  refine ⟨fun hen h1 ha => ?_, fun hen hsound => ?_⟩
  · rw [if_pos hen, chan_disable, chan_regsAtAcceptance, hg.regs.mayToggle_eq_armed, ha, countdownChan_expiry _ h1]
    exact ⟨rfl, rfl, rfl, toggled_cnt _⟩
  · obtain ⟨hlow, harmed, hcnt⟩ :=
      startedIf_sound ((chan_regsAtAcceptance_fail c (nextInput s).pins.btn s.regs).trans hsound)
    rw [hen, if_neg Bool.false_ne_true, chan_enable]
    exact ⟨congrArg Regs.en (enable_eq _), hlow, harmed, hcnt.trans (chan_regsAtAcceptance_lowUs c _ _)⟩

/-! ### An entry to RUN and the transaction of its tick (R126, R181) -/

/-- What an entry to RUN leaves for P3, from the registers at the start of the tick. -/
structure EnteredRun (p : Params) (r e : Regs) : Prop where
  en : e.en = true
  modeRegs : e.modeRegs = (.run, false, r.now)
  ledWaveform : e.led.waveform = r.led.waveform
  magFreq : e.mag.freq = p.magBaseFreq
  magDuty : e.mag.duty = r.mag.duty
  ledStarts : r.led.fail = false → e.led.level = false ∧ e.led.armed = true ∧ e.led.cnt = r.led.lowUs
  magStarts : r.mag.fail = false → e.mag.level = false ∧ e.mag.armed = true ∧
    e.mag.cnt = (calcPair p.magBaseFreq.toNat r.mag.duty.toNat).low
  stgLedFreq : e.stgLedFreq = r.stgLedFreq
  stgLedDuty : e.stgLedDuty = r.stgLedDuty
  stgMagFreq : e.stgMagFreq = zext32 p.magBaseFreq
  stgMagDuty : e.stgMagDuty = r.stgMagDuty
  saveReq : e.saveReq = false

theorem enterRun_led (p : Params) (r : Regs) : (enterRun p r).led = startedIf true r.led :=
  chan_start_both .led (loadBaseFreq p { r with mode := .run, en := true, magOvr := false })

theorem enterRun_mag (p : Params) (r : Regs) : (enterRun p r).mag = startedIf true (loadBaseFreq p r).mag :=
  chan_start_both .mag (loadBaseFreq p { r with mode := .run, en := true, magOvr := false })

theorem enterRun_enteredRun (p : Params) (btn : Bool) (r : Regs) :
    EnteredRun p r (enterRun p (regsAtAcceptance btn r)) where
  en := congrArg Regs.en (enterRun_eq p _)
  modeRegs := by
    rw [enterRun_eq, regsAtAcceptance_now]
    rfl
  ledWaveform := by
    rw [enterRun_led, waveform_startedIf]
    exact waveform_chan_regsAtAcceptance .led btn r
  magFreq := by
    rw [enterRun_mag, startedIf_freq]
    rfl
  magDuty := by
    rw [enterRun_mag, startedIf_duty]
    exact chan_regsAtAcceptance_duty .mag btn r
  ledStarts hsound := by
    obtain ⟨hlow, harmed, hcnt⟩ := startedIf_sound ((chan_regsAtAcceptance_fail .led btn r).trans hsound)
    rw [enterRun_led]
    exact ⟨hlow, harmed, hcnt.trans (chan_regsAtAcceptance_lowUs .led btn r)⟩
  magStarts hsound := by
    have hduty : (regsAtAcceptance btn r).mag.duty = r.mag.duty := chan_regsAtAcceptance_duty .mag btn r
    rw [enterRun_mag, ← hduty]
    exact startedIf_sound (x := (loadBaseFreq p (regsAtAcceptance btn r)).mag)
      ((chan_regsAtAcceptance_fail .mag btn r).trans hsound)
  stgLedFreq := by simp [enterRun, loadBaseFreq]
  stgLedDuty := by simp [enterRun, loadBaseFreq]
  stgMagFreq := congrArg Regs.stgMagFreq (enterRun_eq p _)
  stgMagDuty := by simp [enterRun, loadBaseFreq]
  saveReq := by simp [enterRun, loadBaseFreq]

/-- The whole tick of an entry to RUN: its transaction acts on what the entry leaves, and leaves the device so. -/
theorem afterTick_of_runEntry {s : State} (hp : s.params.WellFormed) (hl : s.params.legacyModes = true)
    (he : edgeAccepted s = true) (hm : s.regs.mode = .allOff) :
    ∃ e, EnteredRun s.params s.regs e ∧ SameDevice (afterTick s).regs e ∧
      (afterTick s).regs = advanceNow (hostRegs s.params (comingTxn s) e) := by
  have hact : controllerAction s.params (regsAtAcceptance (nextInput s).pins.btn s.regs) =
      enterRun s.params (regsAtAcceptance (nextInput s).pins.btn s.regs) := by
    rw [controllerAction_legacy _ _ hl, advanceMode_allOff ((regsAtAcceptance_mode _ _).trans hm)]
  exact ⟨_, enterRun_enteredRun _ _ _, hact ▸ afterTick_device_of_accepted hp he,
    hact ▸ afterTick_regs_of_accepted hp he⟩

/-- P5 writes none of the elements of an install. -/
theorem advanceNow_installed {lf ld mf md : Nat} {r : Regs} (h : Installed lf ld mf md r) :
    Installed lf ld mf md (advanceNow r) :=
  { ledFreq := h.ledFreq, ledDuty := h.ledDuty, magFreq := h.magFreq, magDuty := h.magDuty
    intervals := fun | .led => h.intervals .led | .mag => h.intervals .mag
    reject := h.reject, saveReq := h.saveReq, synced := congrArg advanceNow h.synced }

section
variable {p : Params} {r e : Regs} (h : EnteredRun p r e)
include h

/-- A `CMD.APPLY` after the entry judges the base frequency in place of the staged one. -/
theorem EnteredRun.acceptable_staged_iff :
    acceptable e.stgLedFreq.toNat e.stgLedDuty.toNat e.stgMagFreq.toNat e.stgMagDuty.toNat = true ↔
      valid r.stgLedFreq.toNat r.stgLedDuty.toNat = true ∧
      valid p.magBaseFreq.toNat r.stgMagDuty.toNat = true := by
  rw [h.stgLedFreq, h.stgLedDuty, h.stgMagFreq, h.stgMagDuty, toNat_zext32, acceptable_iff]

theorem EnteredRun.apply_accepted (hv : valid r.stgLedFreq.toNat r.stgLedDuty.toNat = true ∧
      valid p.magBaseFreq.toNat r.stgMagDuty.toNat = true) :
    Installed r.stgLedFreq.toNat r.stgLedDuty.toNat p.magBaseFreq.toNat r.stgMagDuty.toNat (applyStaged e) := by
  have hinst : Installed _ _ _ _ (applyStaged e) := install_installed (h.acceptable_staged_iff.2 hv) e
  rwa [h.stgLedFreq, h.stgLedDuty, h.stgMagFreq, h.stgMagDuty, toNat_zext32] at hinst

theorem EnteredRun.apply_rejected (hv : ¬ (valid r.stgLedFreq.toNat r.stgLedDuty.toNat = true ∧
      valid p.magBaseFreq.toNat r.stgMagDuty.toNat = true)) :
    applyStaged e = syncStaging { e with reject := true } := by
  rw [← h.acceptable_staged_iff, Bool.not_eq_true] at hv
  exact install_rejected _ _ _ _ _ hv

theorem EnteredRun.apply_magFreq : (applyStaged e).mag.freq = p.magBaseFreq := by
  by_cases hv : valid r.stgLedFreq.toNat r.stgLedDuty.toNat = true ∧
      valid p.magBaseFreq.toNat r.stgMagDuty.toNat = true
  · exact BitVec.eq_of_toNat_eq (h.apply_accepted hv).magFreq
  · rw [h.apply_rejected hv]
    exact h.magFreq

end

/-- The edge out of RUN: R124 stops the magnet and leaves `EN`, which R30 has at 1 in RUN. -/
theorem afterTick_edge_out_of_run {s : State} (hg : GoodState s) (hl : s.params.legacyModes = true)
    (he : edgeAccepted s = true) (hm : s.regs.mode = .run) :
    (afterTick s).regs.mode = .magnetOff ∧ (afterTick s).regs.en = true ∧ (afterTick s).regs.magOvr = true := by
  have hdevice := afterTick_device_of_accepted hg.params he
  rw [controllerAction_legacy _ _ hl, advanceMode_run ((regsAtAcceptance_mode _ _).trans hm)] at hdevice
  obtain ⟨hoff, hovr, -⟩ := (modeRegs_eq_iff (m := .magnetOff) (o := true)).1 hdevice.modeRegs
  have hen : s.regs.en = true := by
    obtain ⟨-, hen, -⟩ | ⟨hm', -⟩ | ⟨hm', -⟩ := hg.regs.legacyMode hl
    · exact hen
    all_goals exact absurd (hm.symm.trans hm') (by decide)
  exact ⟨hoff, hdevice.en.trans ((regsAtAcceptance_en (nextInput s).pins.btn s.regs).trans hen), hovr⟩

/-- Settles O50: P3 finds the registers as the entry leaves them and writes no timer and no mode; R30 after the tick
gives the intervals from the codes. The edge out of RUN leaves no mode for the idle timeout. -/
theorem coincidencesInTheLegacyVariant : Obligations.CoincidencesInTheLegacyVariant := by
  intro s t hg hl hr he hstep
  rw [step_tick s hr] at hstep
  cases hstep
  refine ⟨fun v hm htxn => ?_, fun hm htxn => ?_, fun hm => ?_⟩
  · obtain ⟨e, hentry, hdevice, hregs⟩ := afterTick_of_runEntry hg.params hl he hm
    obtain ⟨hrun, -⟩ := modeRegs_eq_iff.1 (hdevice.modeRegs.trans hentry.modeRegs)
    rw [htxn] at hregs
    exact ⟨congrArg Regs.stgMagFreq hregs, (congrArg (·.mag.freq) hregs).trans hentry.magFreq, hrun⟩
  · obtain ⟨e, hentry, hdevice, hregs⟩ := afterTick_of_runEntry hg.params hl he hm
    obtain ⟨hrun, hovr, hsince⟩ := modeRegs_eq_iff.1 (hdevice.modeRegs.trans hentry.modeRegs)
    have hpair := (afterTick_regsInv hg).pairMatches
    have happly : (afterTick s).regs = advanceNow (applyStaged e) := by
      rw [hregs, htxn]
      rfl
    have hfreq : (afterTick s).regs.mag.freq = s.params.magBaseFreq :=
      (congrArg (·.mag.freq) happly).trans hentry.apply_magFreq
    have hstaged : (afterTick s).regs.stgMagFreq = zext32 (afterTick s).regs.mag.freq := by
      rw [happly]
      rfl
    refine ⟨⟨hrun, hdevice.en.trans hentry.en, hovr, hsince⟩, ⟨hfreq, ?_⟩,
      fun hsound => hdevice.started .led (hentry.ledStarts hsound),
      fun hsound => hdevice.started .mag (hentry.magStarts hsound), fun hv => ?_, fun hv => ?_⟩
    · rw [hstaged, toNat_zext32, hfreq]
    · have hinst := advanceNow_installed (hentry.apply_accepted hv)
      rw [← happly] at hinst
      exact ⟨hinst.reject, hinst.saveReq, hinst.ledFreq, hinst.ledDuty, hinst.magDuty,
        (hpair .led).trans (congrArg₂ calcPair hinst.ledFreq hinst.ledDuty),
        (hpair .mag).trans (congrArg₂ calcPair hinst.magFreq hinst.magDuty)⟩
    · have hrej := happly.trans (congrArg advanceNow (hentry.apply_rejected hv))
      have hduty : (afterTick s).regs.mag.duty = s.regs.mag.duty :=
        (congrArg (·.mag.duty) hrej).trans hentry.magDuty
      obtain ⟨hledFreq, hledDuty, hledHigh, hledLow⟩ :=
        waveform_eq_iff.1 ((congrArg (·.led.waveform) hrej).trans hentry.ledWaveform)
      exact ⟨congrArg Regs.reject hrej, (congrArg Regs.saveReq hrej).trans hentry.saveReq, hledFreq, hledDuty,
        hduty, hledHigh, hledLow,
        (hpair .mag).trans (congrArg₂ calcPair (congrArg _ hfreq) (congrArg _ hduty))⟩
  · exact afterTick_edge_out_of_run hg hl he hm

end Sys2Proof.Machine
end

section
/-! PROOFS. The family `70_reset_and_hazards.md`, with the placing of a transaction: what one channel takes from the
other, what a host transaction can reach, and the tick that a placed word meets. -/

namespace Sys2Proof.Machine

/-! ### The state after each kind of tick -/

theorem eq_afterTick_of_step {s t : State} (h : step s = .next t) (hr : isResetTick s = false) : t = afterTick s :=
  Host.Outcome.next.inj (h.symm.trans (step_tick s hr))

theorem eq_resetTick_of_step {s t : State} (h : step s = .next t) (hr : isResetTick s = true) :
    t = resetTick (takeInput s) :=
  Host.Outcome.next.inj (h.symm.trans (step_reset s hr))

/-! ### The phases treat the channels apart (R82, R184) -/

/-- What `f` makes of everything but channel `d` does not depend on the elements of channel `d`. -/
def ActsApart (f : Regs → Regs) : Prop := ∀ d x r, ∃ y, f (setChan d x r) = setChan d y (f r)

theorem ActsApart.comp {f g : Regs → Regs} (hf : ActsApart f) (hg : ActsApart g) : ActsApart fun r => f (g r) := by
  intro d x r
  obtain ⟨y, hy⟩ := hg d x r
  obtain ⟨z, hz⟩ := hf d y (g r)
  exact ⟨z, (congrArg f hy).trans hz⟩

theorem setChan_setChan_same (c : Channel) (x y : ChannelRegs) (r : Regs) :
    setChan c y (setChan c x r) = setChan c y r := by
  cases c <;> rfl

theorem setChan_comm {c d : Channel} (h : d ≠ c) (x y : ChannelRegs) (r : Regs) :
    setChan c y (setChan d x r) = setChan d x (setChan c y r) := by
  cases c <;> cases d
  · exact absurd rfl h
  · rfl
  · rfl
  · exact absurd rfl h

theorem mayToggle_setChan_other {c d : Channel} (h : d ≠ c) (x : ChannelRegs) (r : Regs) :
    mayToggle c (setChan d x r) = mayToggle c r := by
  rw [mayToggle, mayToggle, enEff_setChan, chan_setChan_other d c x r h.symm]

theorem countdown_actsApart (c : Channel) : ActsApart (countdown c) := by
  intro d x r
  obtain rfl | h := eq_or_ne d c
  · rw [countdown_eq_setChan, countdown_eq_setChan, setChan_setChan_same]
    exact ⟨_, (setChan_setChan_same _ _ _ _).symm⟩
  · rw [countdown_eq_setChan, countdown_eq_setChan, mayToggle_setChan_other h, chan_setChan_other d c x r h.symm,
      setChan_comm h]
    exact ⟨x, rfl⟩

theorem timerPhase_actsApart : ActsApart timerPhase := (countdown_actsApart .mag).comp (countdown_actsApart .led)

theorem clearSaveReq_actsApart : ActsApart clearSaveReq := fun d x r => ⟨x, by cases d <;> rfl⟩

theorem disable_actsApart : ActsApart disable := by
  intro d x r
  cases d <;> exact ⟨_, rfl⟩

theorem enable_actsApart : ActsApart enable := by
  intro d x r
  rw [enable_eq, enable_eq]
  cases d <;> exact ⟨_, rfl⟩

/-- The entry to RUN takes the duty of the magnet channel, for the magnet channel alone (R126). -/
theorem enterRun_actsApart (p : Params) : ActsApart (enterRun p) := by
  intro d x r
  rw [enterRun_eq, enterRun_eq]
  cases d <;> exact ⟨_, rfl⟩

theorem advanceMode_actsApart (p : Params) : ActsApart (advanceMode p) := by
  intro d x r
  rw [advanceMode, advanceMode, setChan_mode]
  cases r.mode
  case off => exact ⟨x, rfl⟩
  case run => cases d <;> exact ⟨_, rfl⟩
  case magnetOff => cases d <;> exact ⟨_, rfl⟩
  case allOff => exact enterRun_actsApart p d x r

theorem controllerAction_actsApart (p : Params) : ActsApart (controllerAction p) := by
  intro d x r
  cases hl : p.legacyModes
  · rw [controllerAction_canonical _ hl, controllerAction_canonical _ hl, setChan_en]
    cases r.en
    · exact enable_actsApart d x r
    · exact disable_actsApart d x r
  · rw [controllerAction_legacy p _ hl, controllerAction_legacy p _ hl]
    exact advanceMode_actsApart p d x r

theorem acceptsEdge_setChan (p : Params) (btn : Bool) (d : Channel) (x : ChannelRegs) (r : Regs) :
    acceptsEdge p btn (setChan d x r) = acceptsEdge p btn r := by
  cases d <;> rfl

theorem buttonPhase_actsApart (p : Params) (btn : Bool) : ActsApart (buttonPhase p btn) := by
  intro d x r
  cases ha : acceptsEdge p btn r
  · rw [buttonPhase_quiet p btn r ha, buttonPhase_quiet p btn _ ((acceptsEdge_setChan ..).trans ha)]
    exact ⟨x, by cases d <;> rfl⟩
  · rw [buttonPhase_accepted p btn r ha, buttonPhase_accepted p btn _ ((acceptsEdge_setChan ..).trans ha)]
    obtain ⟨y, hy⟩ :=
      controllerAction_actsApart p d x { r with btnPrev := btn, lastAccept := r.now, lastValid := true }
    exact ⟨y, by rw [← hy]; cases d <;> rfl⟩

theorem regsBeforeHost_actsApart (p : Params) (btn : Bool) : ActsApart (regsBeforeHost p btn) :=
  (buttonPhase_actsApart p btn).comp (timerPhase_actsApart.comp clearSaveReq_actsApart)

/-! ### One channel through P3 and P4

An install syncs the staging registers of both channels, so P3 is not apart; but it takes each channel from that channel
and the staging registers alone. -/

theorem chan_install_congr {c : Channel} {r r' : Regs} (h : chan c r' = chan c r) (lf ld mf md : Nat) :
    chan c (install lf ld mf md r') = chan c (install lf ld mf md r) := by
  cases hacc : acceptable lf ld mf md
  · rw [install_rejected _ _ _ _ _ hacc, install_rejected _ _ _ _ _ hacc]
    cases c <;> exact h
  · rw [install_accepted _ _ _ _ _ hacc, install_accepted _ _ _ _ _ hacc]
    cases c
    · exact congrArg (withCodes lf ld) h
    · exact congrArg (withCodes mf md) h

theorem chan_hostRegs_setChan_other {c d : Channel} (hne : d ≠ c) (p : Params) (i : Instr) (x : ChannelRegs)
    (r : Regs) : chan c (hostRegs p i (setChan d x r)) = chan c (hostRegs p i r) := by
  have h := chan_setChan_other d c x r hne.symm
  cases i
  case cmdApply =>
    simp only [hostRegs, applyStaged, setChan_stgLedFreq, setChan_stgLedDuty, setChan_stgMagFreq, setChan_stgMagDuty]
    exact chan_install_congr h _ _ _ _
  case cmdDefaults => exact chan_install_congr h _ _ _ _
  all_goals cases c <;> exact h

theorem chan_idlePhase_congr {p : Params} {c : Channel} {r r' : Regs} (hdue : idleDue p r' = idleDue p r)
    (h : chan c r' = chan c r) : chan c (idlePhase p r') = chan c (idlePhase p r) := by
  cases hd : idleDue p r
  · rwa [idlePhase_quiet p r hd, idlePhase_quiet p r' (hdue.trans hd)]
  · rw [idlePhase_due p r hd, idlePhase_due p r' (hdue.trans hd)]
    cases c <;> exact congrArg (fun x : ChannelRegs => { x with level := false, armed := false }) h

theorem idleDue_setChan (p : Params) (d : Channel) (x : ChannelRegs) (r : Regs) :
    idleDue p (setChan d x r) = idleDue p r :=
  idleDue_congr p (setChan_mode ..) (setChan_now ..) (setChan_runSince ..)

theorem chan_afterTick_setChan_other {c d : Channel} (hne : d ≠ c) (x : ChannelRegs) (s : State) :
    chan c (afterTick { s with regs := setChan d x s.regs }).regs = chan c (afterTick s).regs := by
  obtain ⟨y, hy⟩ := regsBeforeHost_actsApart s.params (nextInput s).pins.btn d x s.regs
  have hregs : (afterTick { s with regs := setChan d x s.regs }).regs = regsAfterHost s.params
      (hostRegs s.params (comingTxn s) (setChan d y (regsBeforeHost s.params (nextInput s).pins.btn s.regs))) :=
    congrArg (fun r => regsAfterHost s.params (hostRegs s.params (comingTxn s) r)) hy
  rw [hregs, afterTick_regs, chan_regsAfterHost, chan_regsAfterHost]
  apply chan_idlePhase_congr
  · rw [idleDue_hostRegs, idleDue_hostRegs, idleDue_setChan]
  · exact chan_hostRegs_setChan_other hne ..

/-- Settles O19: P0 to P2 treat the channels apart, P3 and P4 act on channel `c` by what is the same in both states; and
a reset tick reads no channel. -/
theorem channelsAreUncoupled : Obligations.ChannelsAreUncoupled := by
  intro s t t' c d x hne ht ht'
  cases hr : isResetTick s
  · rw [eq_afterTick_of_step ht hr, eq_afterTick_of_step ht' hr]
    exact (chan_afterTick_setChan_other hne x s).symm
  · rw [eq_resetTick_of_step ht hr, eq_resetTick_of_step ht' hr]
    rfl

/-! ### What a host transaction can reach (R31, R186) -/

/-- A channel without its codes and intervals. -/
def eraseCodes (x : ChannelRegs) : ChannelRegs := { x with freq := 0, duty := 0, highUs := 0, lowUs := 0 }

/-- The registers without the elements that P3 may write (R31). -/
def eraseHostWrites (r : Regs) : Regs :=
  { r with
    led := eraseCodes r.led, mag := eraseCodes r.mag
    stgLedFreq := 0, stgLedDuty := 0, stgMagFreq := 0, stgMagDuty := 0
    reject := false, saveReq := false }

theorem eraseHostWrites_install (lf ld mf md : Nat) (r : Regs) :
    eraseHostWrites (install lf ld mf md r) = eraseHostWrites r := by
  cases hacc : acceptable lf ld mf md
  · rw [install_rejected _ _ _ _ _ hacc]; rfl
  · rw [install_accepted _ _ _ _ _ hacc]; rfl

theorem eraseHostWrites_hostRegs (p : Params) (i : Instr) (r : Regs) :
    eraseHostWrites (hostRegs p i r) = eraseHostWrites r := by
  cases i
  case cmdApply => exact eraseHostWrites_install _ _ _ _ r
  case cmdDefaults => exact eraseHostWrites_install _ _ _ _ r
  all_goals rfl

/-- P4 and P5 read nothing that P3 may write. -/
theorem eraseHostWrites_regsAfterHost (p : Params) (r : Regs) :
    eraseHostWrites (regsAfterHost p r) = regsAfterHost p (eraseHostWrites r) := by
  have hdue : idleDue p (eraseHostWrites r) = idleDue p r := idleDue_congr p rfl rfl rfl
  rw [regsAfterHost, regsAfterHost]
  cases hd : idleDue p r
  · rw [idlePhase_quiet p r hd, idlePhase_quiet p _ (hdue.trans hd)]; rfl
  · rw [idlePhase_due p r hd, idlePhase_due p _ (hdue.trans hd)]; rfl

/-- Apart from what P3 may write, a tick ends as if its transaction were none. -/
theorem eraseHostWrites_afterTick (s : State) : eraseHostWrites (afterTick s).regs =
    regsAfterHost s.params (eraseHostWrites (regsBeforeHost s.params (nextInput s).pins.btn s.regs)) := by
  rw [afterTick_regs, eraseHostWrites_regsAfterHost, eraseHostWrites_hostRegs]

theorem eraseCodes_eq_iff {x y : ChannelRegs} : eraseCodes x = eraseCodes y ↔
    x.level = y.level ∧ x.armed = y.armed ∧ x.cnt = y.cnt ∧ x.fail = y.fail := by
  simp [eraseCodes]

/-- The elements that P3 never writes. -/
theorem eq_of_eraseHostWrites_eq {r r' : Regs} (h : eraseHostWrites r = eraseHostWrites r') :
    (∀ c, (chan c r).level = (chan c r').level ∧ (chan c r).armed = (chan c r').armed ∧
      (chan c r).cnt = (chan c r').cnt ∧ (chan c r).fail = (chan c r').fail) ∧
    r.now = r'.now ∧ r.en = r'.en ∧ r.magOvr = r'.magOvr ∧ r.mode = r'.mode ∧ r.runSince = r'.runSince ∧
    r.btnPrev = r'.btnPrev ∧ r.lastAccept = r'.lastAccept ∧ r.lastValid = r'.lastValid := by
  simp only [eraseHostWrites, Regs.mk.injEq, eraseCodes_eq_iff] at h
  obtain ⟨hnow, hled, hmag, hen, hovr, hmode, hsince, hbtn, hlast, hvalid, -⟩ := h
  exact ⟨fun | .led => hled | .mag => hmag, hnow, hen, hovr, hmode, hsince, hbtn, hlast, hvalid⟩

/-- Settles O20: the two ticks end alike apart from what P3 may write, and no element of the statement is among that. -/
theorem hostCannotMoveAnEdge : Obligations.HostCannotMoveAnEdge := by
  intro s t t' pins w w' l ht ht'
  apply eq_of_eraseHostWrites_eq
  cases hr : pins.rst
  · rw [eq_afterTick_of_step ht hr, eq_afterTick_of_step ht' hr, eraseHostWrites_afterTick, eraseHostWrites_afterTick]
    rfl
  · rw [eq_resetTick_of_step ht hr, eq_resetTick_of_step ht' hr]
    rfl

/-! ### A placed transaction (R55, R62) -/

/-- A row's word that is read at all fits the port, and is read by the decoder. -/
theorem decode_of_decodeTableWord {nbits w : Nat} {i : Instr} (h : decodeTableWord nbits w = some i) :
    decode (BitVec.ofNat 38 (w % 2 ^ nbits)) = i := by
  rw [decodeTableWord, decodeNumber] at h
  by_cases hw : w % 2 ^ nbits < 2 ^ 38
  · rw [if_pos hw] at h
    exact Option.some.inj h
  · rw [if_neg hw] at h
    cases h

/-- Settles O6: `placeWord` puts the word and a released `rst` at the head of the inputs, and the decoder reads the
word as it reads the row. -/
theorem withFetchWordPresentsTheTransaction : Obligations.WithFetchWordPresentsTheTransaction :=
  fun _ _ _ _ h => ⟨rfl, decode_of_decodeTableWord h, rfl, rfl, rfl, rfl, rfl, rfl, rfl, rfl⟩

end Sys2Proof.Machine
end
